-- ==== Sys2Proof/Word.lean ====
section
/-! DEFINITION. The bit words that cross the serial line, and the finite ranges that number the parts of the SC24. -/

namespace Sys2Proof

/-- One character of the serial line (R156). -/
abbrev Byte := BitVec 8

/-- The check register of a frame (R158). -/
abbrev CrcWord := BitVec 16

/-- A channel number, 0 to 23 (R1). -/
abbrev ChanId := Fin 24

/-- A sense pin, S0 to S23 (R22). -/
abbrev PinId := Fin 24

/-- A counting unit, CU0 to CU3 (R26). -/
abbrev UnitId := Fin 4

/-- An oscillator cell, OC0 or OC1 (R23). -/
abbrev CellId := Fin 2

/-- A group lock. Lock `g` is the rules' lock number `g + 1` (R100). -/
abbrev LockId := Fin 4

end Sys2Proof
end

