-- ==== Sys2Proof/Syntax.lean ====
section
/-! DEFINITION. The commands of the SC24: one constructor for each row of spec/opcode_table.json, in the table's order. -/

namespace Sys2Proof

/-- The line speed that the SPD strap selects at a reset (R156). -/
inductive LineSpeed
  | slow  -- SPD low: 115,200 bit/s
  | fast  -- SPD high: 460,800 bit/s
deriving DecidableEq, Repr

/-- The kind of an edge of a digital signal on a sense pin (R31). -/
inductive Edge
  | rising
  | falling
deriving DecidableEq, Repr

/-- A command: one step of the part, whole and indivisible.

Operands. A reset carries the speed SPD gives when it is sampled. A request has none: its kind, tag and payload
stand at the head of the request queue (R177). A command of the receiver carries the byte that the receiver takes from a
character on RXD (R156, `Machine.characterByte`). A command of a counting unit names the unit; an edge also carries `dt`,
the time in picoseconds that passed since the unit's counters were last brought up to date (DESIGN CHOICE, log 29), and
the INTERVAL edges carry the kind of the edge. -/
inductive Instr
  | powerReset (speed : LineSpeed)
  | pinReset (speed : LineSpeed)
  | softReset (speed : LineSpeed)
  | ping
  | getStatus
  | setLink
  | setChannel
  | getChannel
  | setScan
  | getScan
  | scanStart
  | scanStop
  | calibrate
  | measure
  | abortOp
  | flushNotices
  | resetPart
  | undefinedRequestKind
  | ack (b : Byte)
  | requestFrameArrival (b : Byte)
  | foreignFrame (b : Byte)
  | lengthDiscard (b : Byte)
  | crcMismatch (b : Byte)
  | gapTimeout
  | replyTransmission
  | firstTransmission
  | noticeResend
  | frameEnd
  | ackTimerExpiry
  | roundTimerExpiry
  | settleEdge (u : UnitId) (dt : Nat)
  | gateEdge (u : UnitId) (dt : Nat)
  | gateClose (u : UnitId)
  | armingEdge (u : UnitId) (dt : Nat)
  | periodEdge (u : UnitId) (dt : Nat)
  | intervalArmingEdge (u : UnitId) (e : Edge) (dt : Nat)
  | intervalFinalEdge (u : UnitId) (e : Edge) (dt : Nat)
  | spanTimeout (u : UnitId)
  | byteReceived (b : Byte)
  | resetHeldLow
deriving DecidableEq, Repr

end Sys2Proof
end

