-- ==== Sys2Proof/Config.lean ====
section
/-! DEFINITION. The constants of the part and its one free value. -/

namespace Sys2Proof.Config

/-- Records the notice queue holds (R140). -/
abbrev noticeCapacity : Nat := 32

/-- Waiting scan jobs (R42). -/
abbrev scanSlots : Nat := 6

/-- Waiting operation jobs (R42). -/
abbrev opSlots : Nat := 2

/-- Operations in the table (R123). -/
abbrev opCapacity : Nat := 4

/-- Frames in the request queue (R175). -/
abbrev requestCapacity : Nat := 2

/-- Frames in the reply queue (R176). -/
abbrev replyCapacity : Nat := 2

/-- The pass count at which a waiting job blocks the younger ones (R50). -/
abbrev passLimit : Nat := 4

/-- Largest value of the saturating 16-bit counts (R60, R92, R146, R161). -/
abbrev countMax : Nat := 65535

/-- Largest raw value (R33). -/
abbrev rawMax : Nat := 16777215

/-- Value at which the edge counter stops (R29). -/
abbrev edgeMax : Nat := 16777216

/-- Identity of the part (R149): family code, revision, channels, units, cells. -/
abbrev identity : List Byte := [0x71#8, 1#8, 24#8, 4#8, 2#8]

/-- REFCLK periods in one millisecond (R21: 16 MHz). -/
abbrev refclkPerMs : Nat := 16000

/-- A REFCLK period in picoseconds: 62.5 ns (R21). -/
abbrev refclkTime : Nat := 62500

/-- The largest value of the tick counter and of the span counter (R26). -/
abbrev tickMax : Nat := 65535

/-- The longest gate or timeout in picoseconds: 65535 ticks of prescale code 8 (R2, R21). -/
abbrev longestSpan : Nat := tickMax * 256 * refclkTime

/-- Nominal charge current of a cell in CAP mode, in microampere, by drive level (R24).
The analog cell is outside the model: its edges come as commands. -/
def capCurrent : Fin 4 → Nat
  | 0 => 5
  | 1 => 10
  | 2 => 20
  | 3 => 40

/-- Lower and upper threshold of a cell in RES mode, in percent of VDD, by drive level (R25). -/
def resBand : Fin 4 → Nat × Nat
  | 0 => (10, 90)
  | 1 => (20, 80)
  | 2 => (30, 70)
  | 3 => (40, 60)

/-- Lower and upper threshold of a cell in CAP mode, in percent of VDD (R24). -/
def capBand : Nat × Nat := (25, 75)

/-- FREE VALUE. When one grant pass leaves both producers of the job queue with a job to issue, the rules
(R43, R69, R128) do not say which issues first. The n-th such choice is `sequencerFirst n`. It has no body:
no proof can see it. -/
opaque sequencerFirst : Nat → Bool

end Sys2Proof.Config
end

