-- ==== Sys2Proof/Machine/Types.lean ====
section
/-! DEFINITION. The records the blocks of the SC24 hold, as plain data. Where the rules give a set of names, the type is
an inductive of those names; where they give a number, it is a natural number or an integer; bytes are words. -/

namespace Sys2Proof.Machine

/-! ## Channels (R1 to R12) -/

/-- Where a measurement's edges come from (R2). -/
inductive Source | oscCap | oscRes | ext
deriving DecidableEq, Repr

/-- How a raw value is obtained (R2). -/
inductive Mode | gated | period | interval
deriving DecidableEq, Repr

/-- First and second edge of an INTERVAL measurement (R31). -/
inductive EdgePair | riseRise | fallFall | riseFall | fallRise
deriving DecidableEq, Repr

/-- The measuring fields of a channel, and the snapshot of them that a job carries (R2). -/
structure Measuring where
  pin : PinId
  source : Source
  mode : Mode
  prescale : Nat
  gateLength : Nat
  cycleCount : Nat
  edgePair : EdgePair
  timeout : Nat
  settleCycles : Nat
  driveLevel : Fin 4
deriving DecidableEq, Repr

/-- Sign of the signal of a DELTA channel (R3). -/
inductive Direction | falling | rising
deriving DecidableEq, Repr

/-- The detector of a channel (R5). `plain` is the rules' NONE. -/
inductive Detector | plain | delta | window
deriving DecidableEq, Repr

/-- Which scan results become RESULT records (R6, R117). `never` is the rules' NONE. -/
inductive ResultMode | never | every | change
deriving DecidableEq, Repr

/-- The fields read by the DELTA detector (R3). `group` is absent for group 0. -/
structure DeltaFields where
  direction : Direction
  onThreshold : Nat
  offThreshold : Nat
  settleCount : Nat
  driftStep : Nat
  driftInterval : Nat
  reverseLimit : Nat
  holdLimit : Nat
  group : Option LockId
deriving DecidableEq, Repr

/-- The fields read by the WINDOW detector (R4). -/
structure WindowFields where
  lowLimit : Nat
  highLimit : Nat
  hysteresis : Nat
deriving DecidableEq, Repr

/-- The configuration of a channel, written whole by SET_CHANNEL (R2 to R6). -/
structure ChannelConfig where
  enable : Bool
  measuring : Measuring
  detector : Detector
  delta : DeltaFields
  window : WindowFields
  debounceOn : Nat
  debounceOff : Nat
  faultLimit : Nat
  events : Bool
  resultMode : ResultMode
  changeStep : Nat
deriving DecidableEq, Repr

/-- The detector states (R8). -/
inductive ChanState
  | off | settling | idle | arming | active | releasing | calibrating | fault
  | unknown | inside | above | below | live
deriving DecidableEq, Repr

/-- The zones of a WINDOW channel (R108). -/
inductive Zone | below | inside | above
deriving DecidableEq, Repr

/-- The live state of a channel (R8 to R11). -/
structure LiveState where
  state : ChanState
  baseline : Option Nat := none
  settleSum : Nat := 0
  settleSamples : Nat := 0
  lastRaw : Option Nat := none
  lastSignal : Option Int := none
  debounce : Nat := 0
  candidate : Option Zone := none
  suppressed : Bool := false
  activeResults : Nat := 0
  driftCount : Nat := 0
  reverseCount : Nat := 0
  faultCount : Nat := 0
  lastReported : Option Int := none
deriving DecidableEq, Repr

/-- A channel record (R1). -/
structure Channel where
  config : ChannelConfig
  live : LiveState
deriving DecidableEq, Repr

/-! ## Jobs, units, cells and claims (R22 to R44) -/

/-- The producer of a job (R41). -/
inductive Origin
  | scan (entry : Nat) (round : Nat)
  | op (opId : Nat) (entry : Nat)
deriving DecidableEq, Repr

/-- A job: one measurement of one channel (R41). -/
structure Job where
  origin : Origin
  channel : ChanId
  snapshot : Measuring
  passCount : Nat
deriving DecidableEq, Repr

/-- The phase of a running job (R26). The phase FREE is the absence of a running job. -/
inductive Phase | settle | arm | count
deriving DecidableEq, Repr

/-- A counting unit that is not FREE (R26). The tick counter and the span counter are held as the time,
in picoseconds, elapsed since the event that started each (R21); the counters themselves are `Running.ticks` and
`Running.spanTicks`. DESIGN CHOICE, safe (log 29): time has the grain of a picosecond, which loses no counter value. -/
structure Running where
  phase : Phase
  job : Job
  cell : Option CellId
  edges : Nat
  tickTime : Nat
  spanTime : Nat
deriving DecidableEq, Repr

/-- The two modes of an oscillator cell (R23). -/
inductive CellMode | cap | res
deriving DecidableEq, Repr

/-- What a held cell holds (R23). -/
structure CellHold where
  pin : PinId
  mode : CellMode
  driveLevel : Fin 4
deriving DecidableEq, Repr

/-- An entry of the pin claim table (R44). -/
inductive PinClaim
  | free
  | osc (u : UnitId)
  | ext (readers : Nat)
deriving DecidableEq, Repr

/-- The condition of a sense pin (R22). -/
inductive PinCondition | idle | oscillator | edgeInput
deriving DecidableEq, Repr

/-- The resources that the arbiter grants: claims, cells and units. A unit without an entry is FREE. -/
structure Resources where
  claims : Vector PinClaim 24
  cells : Vector (Option CellHold) 2
  units : Vector (Option Running) 4
deriving DecidableEq, Repr

/-- What a completed job yields (R33): a raw value with no flag, or one of the two flags. -/
inductive Reading
  | value (raw : Nat)
  | noSignal
  | overrange
deriving DecidableEq, Repr

/-! ## Scan sequencer (R57, R60) -/

/-- An entry of the scan list (R57). -/
structure ScanEntry where
  channel : ChanId
  divider : Nat
  watch : Bool
deriving DecidableEq, Repr

/-- The sequencer's modes (R60). -/
inductive SeqMode | stopped | running | single | watch
deriving DecidableEq, Repr

/-- A running timer: its period in ms and the REFCLK periods elapsed since its start or its last expiry. -/
structure Timer where
  period : Nat
  elapsed : Nat
deriving DecidableEq, Repr

/-- The scan sequencer (R57, R60). `eligible` holds the indexes of the entries found due and eligible at the begin of
the round (R68), which R69 reads again at issue. -/
structure Sequencer where
  list : List ScanEntry
  mode : SeqMode
  round : Nat
  inRound : Bool
  timer : Option Timer
  runPeriod : Nat
  watchPeriod : Nat
  heldStart : Bool
  overruns : Nat
  overrunReported : Bool
  issuePos : Nat
  outstanding : List Nat
  eligible : List Nat
deriving DecidableEq, Repr

/-! ## Operations (R123, R124) -/

/-- The kinds of operation (R123). -/
inductive OpKind | calibrate | measure
deriving DecidableEq, Repr

/-- The outcomes of an entry (R123). -/
inductive EntryOutcome | pending | complete | failed | noSignal | cancelled | aborted
deriving DecidableEq, Repr

/-- An entry of an operation (R123). `minMax` holds the minimum and the maximum. -/
structure OpEntry where
  channel : ChanId
  taken : Nat
  valid : Nat
  sum : Nat
  minMax : Option (Nat × Nat)
  outcome : EntryOutcome
deriving DecidableEq, Repr

/-- An operation record (R123). `started` is state RUNNING, its absence WAITING. -/
structure Operation where
  opId : Nat
  kind : OpKind
  samples : Nat
  entries : List OpEntry
  current : Nat
  started : Bool
  outstanding : Bool
deriving DecidableEq, Repr

/-- The operation engine: the table in acceptance order, oldest first, and the next op id (R123, R124). -/
structure OpEngine where
  table : List Operation
  nextId : Nat
deriving DecidableEq, Repr

/-! ## Notices (R140 to R149) -/

/-- The kinds of reset (R149). -/
inductive ResetKind | power | pin | soft
deriving DecidableEq, Repr

/-- The reasons of STATE records (R104, R115, R188). -/
inductive Reason
  | settled | touch | release | holdTimeout | zone | fault | recover | config | calibrating | calibrated | calAborted
deriving DecidableEq, Repr

/-- A STATE record (R141). -/
structure StateRecord where
  channel : ChanId
  round : Option Nat
  previous : ChanState
  next : ChanState
  reason : Reason
  value : Option Int
deriving DecidableEq, Repr

/-- A RESULT record (R120). -/
structure ResultRecord where
  channel : ChanId
  round : Nat
  noSignal : Bool
  overrange : Bool
  suppressed : Bool
  state : ChanState
  raw : Option Nat
  baseline : Option Nat
  signal : Option Int
deriving DecidableEq, Repr

/-- An entry of an OP_DONE record (R134). `first` is the new baseline (CALIBRATE) or the mean (MEASURE). -/
structure OpDoneEntry where
  channel : ChanId
  outcome : EntryOutcome
  validCount : Nat
  first : Option Nat
  minMax : Option (Nat × Nat)
deriving DecidableEq, Repr

/-- An OP_DONE record (R134). -/
structure OpDoneRecord where
  opId : Nat
  kind : OpKind
  aborted : Bool
  entries : List OpDoneEntry
deriving DecidableEq, Repr

/-- Why a wake took place (R76). -/
inductive WakeReason | detect | host
deriving DecidableEq, Repr

/-- The events of SCAN records; the wake reason is present for WOKE alone (R77). -/
inductive ScanEvent | done | overrun | woke (reason : WakeReason)
deriving DecidableEq, Repr

/-- The overflow tally (R146). -/
structure Tally where
  results : Nat
  states : Nat
  others : Nat
deriving DecidableEq, Repr

/-- A record of the notice queue (R141). The identity fields of HELLO are constants of the part (R149). -/
inductive Record
  | hello (kind : ResetKind) (speed : LineSpeed)
  | state (r : StateRecord)
  | result (r : ResultRecord)
  | opDone (r : OpDoneRecord)
  | scan (event : ScanEvent) (round : Nat)
deriving DecidableEq, Repr

/-- What a notice carries: a record taken from the queue, or the counts of the tally (R141, R147). -/
inductive NoticeBody
  | record (r : Record)
  | overflow (t : Tally)
deriving DecidableEq, Repr

/-- A notice of the in-flight set (R164). -/
structure Notice where
  seq : Nat
  body : NoticeBody
deriving DecidableEq, Repr

/-- The notice queue: unsent records, oldest first, and the tally (R140, R146). -/
structure NoticeQueue where
  records : List Record
  tally : Tally
deriving DecidableEq, Repr

/-! ## Link (R156 to R184) -/

/-- The body of a frame: kind, tag and payload (R157). -/
structure Frame where
  kind : Byte
  tag : Byte
  payload : List Byte
deriving DecidableEq, Repr

/-- The receiver (R159). `crc` holds the low CRC byte once it has been received. -/
inductive Receiver
  | hunt
  | length
  | body (len : Nat) (got : List Byte)
  | crc (len : Nat) (got : List Byte) (low : Option Byte)
deriving DecidableEq, Repr

/-- Discard causes (R161). -/
inductive DiscardCause | length | crc | gap | queueFull | foreign
deriving DecidableEq, Repr

/-- What kind of transmission a frame on the line is (R163). -/
inductive TxSource | reply | first | resend
deriving DecidableEq, Repr

/-- The frame being sent on TXD (R163). -/
structure Transmission where
  source : TxSource
  frame : Frame
deriving DecidableEq, Repr

/-- Delivery states (R164). -/
inductive DeliveryState | opened | resend | stalled | hold
deriving DecidableEq, Repr

/-- The four link parameters (R172). -/
structure LinkParams where
  window : Nat
  ackTimeout : Nat
  retryLimit : Nat
  notices : Bool
deriving DecidableEq, Repr

/-- Notice delivery (R164). `opened` is the rules' OPEN. -/
structure Delivery where
  state : DeliveryState
  inFlight : List Notice
  passSet : List Notice
  ackTimer : Option Timer
  retries : Nat
  nextSeq : Nat
  params : LinkParams
deriving DecidableEq, Repr

/-- The entry of the reply cache (R178). -/
structure CacheEntry where
  tag : Byte
  kind : Byte
  reply : Frame
deriving DecidableEq, Repr

/-- The request handler with its queues and cache (R175 to R178, R184). -/
structure Handler where
  requests : List Frame
  replies : List Frame
  cache : Option CacheEntry
  resetting : Bool
  lastReset : ResetKind
deriving DecidableEq, Repr

/-- What an open-drain output does to its line: it drives it low or leaves it high-impedance (R153). -/
inductive OpenDrain | low | highImpedance
deriving DecidableEq, Repr

/-- The line: speed, receiver, discards and transmitter (R156 to R163). -/
structure Line where
  speed : LineSpeed
  receiver : Receiver
  discards : Nat
  lastDiscard : Option DiscardCause
  tx : Option Transmission
deriving DecidableEq, Repr

end Sys2Proof.Machine
end

