-- ==== Sys2Proof/Machine/Defaults.lean ====
section
/-! DEFINITION. The reset values of every block, as the chapter that owns it states them. -/

namespace Sys2Proof.Machine

/-- The default measuring fields; the pin of channel n is n (R2, R20). -/
def Measuring.default (n : ChanId) : Measuring :=
  { pin := n, source := .oscCap, mode := .gated, prescale := 0, gateLength := 16000, cycleCount := 64,
    edgePair := .riseRise, timeout := 8000, settleCycles := 8, driveLevel := 1 }

/-- The default DELTA fields (R3). -/
def DeltaFields.default : DeltaFields :=
  { direction := .falling, onThreshold := 100, offThreshold := 60, settleCount := 8, driftStep := 1,
    driftInterval := 16, reverseLimit := 4, holdLimit := 0, group := none }

/-- The default WINDOW fields (R4). -/
def WindowFields.default : WindowFields :=
  { lowLimit := 0, highLimit := Config.rawMax, hysteresis := 0 }

/-- The default configuration of channel n (R2 to R6, R20). -/
def ChannelConfig.default (n : ChanId) : ChannelConfig :=
  { enable := false, measuring := Measuring.default n, detector := .plain, delta := DeltaFields.default,
    window := WindowFields.default, debounceOn := 2, debounceOff := 2, faultLimit := 3, events := true,
    resultMode := .never, changeStep := 1 }

/-- The live state cleared to a given detector state (R12). -/
def LiveState.cleared (st : ChanState) : LiveState := { state := st }

/-- Channel n after a reset (R20). -/
def Channel.reset (n : ChanId) : Channel :=
  { config := ChannelConfig.default n, live := LiveState.cleared .off }

/-- The channel table after a reset (R20). -/
def resetChannels : Vector Channel 24 :=
  ⟨⟨(List.finRange 24).map Channel.reset⟩, by simp⟩

/-- Claims, cells and units after a reset (R39, R55). -/
def Resources.reset : Resources :=
  { claims := Vector.replicate 24 .free, cells := Vector.replicate 2 none, units := Vector.replicate 4 none }

/-- The sequencer after a reset (R57, R60). -/
def Sequencer.reset : Sequencer :=
  { list := [], mode := .stopped, round := 0, inRound := false, timer := none, runPeriod := 20, watchPeriod := 250,
    heldStart := false, overruns := 0, overrunReported := false, issuePos := 0, outstanding := [], eligible := [] }

/-- The operation engine after a reset (R124, R138). -/
def OpEngine.reset : OpEngine := { table := [], nextId := 1 }

/-- The empty tally (R146). -/
def Tally.zero : Tally := { results := 0, states := 0, others := 0 }

/-- The notice queue after a reset: the HELLO record alone (R150). -/
def NoticeQueue.reset (k : ResetKind) (speed : LineSpeed) : NoticeQueue :=
  { records := [.hello k speed], tally := Tally.zero }

/-- The default link parameters (R172). -/
def LinkParams.default : LinkParams := { window := 2, ackTimeout := 100, retryLimit := 3, notices := true }

/-- Delivery after a reset that leaves the given parameters in force (R164). -/
def Delivery.reset (p : LinkParams) : Delivery :=
  { state := if p.notices then .opened else .hold, inFlight := [], passSet := [], ackTimer := none, retries := 0,
    nextSeq := 1, params := p }

/-- The request handler after a reset (R175, R176, R178, R184). -/
def Handler.reset (k : ResetKind) : Handler :=
  { requests := [], replies := [], cache := none, resetting := false, lastReset := k }

/-- The line after a reset (R156, R159, R161, R163). -/
def Line.reset (speed : LineSpeed) : Line :=
  { speed := speed, receiver := .hunt, discards := 0, lastDiscard := none, tx := none }

end Sys2Proof.Machine
end

