-- ==== Sys2Proof/Machine/State.lean ====
section
/-! DEFINITION. The state of the SC24, its reasons to stop, and the state after reset. -/

namespace Sys2Proof.Machine

/-- The faults of the block. There is none: everything the part finds wrong has an effect that the rules give (a discard,
a refusal reply, a detector in FAULT, a tally, STALLED), so no constructor is needed and no meaning raises one. -/
inductive Fault
deriving DecidableEq, Repr

/-- The refusals of the block. -/
inductive Refusal
  /-- Raised by `exec` alone, for a row of the table that has no meaning yet (safe). No row is left: nothing raises it. -/
  | notModelled (mnemonic : String)
deriving DecidableEq, Repr

/-- The state of the part, block by block (spec/00_scope.md, "Block diagram"), and the queue of commands waiting.

`resetHeld` is the RESET pin driven low (R154, R163). `choices` is the model's own: how many free choices of producer
order have been taken (Config.sequencerFirst). `pending` is the model's own: the commands waiting, first in, first out. -/
structure State where
  res : Resources
  queue : List Job
  seq : Sequencer
  channels : Vector Channel 24
  locks : Vector (Option ChanId) 4
  ops : OpEngine
  notices : NoticeQueue
  line : Line
  delivery : Delivery
  handler : Handler
  resetHeld : Bool
  choices : Nat
  pending : List Instr
deriving DecidableEq, Repr

/-- The part right after a POWER reset with SPD low: every block at the value its chapter states (R20, R39, R55, R60,
R100, R138, R150, R164, R172, R184). -/
def State.reset : State :=
  { res := Resources.reset
    queue := []
    seq := Sequencer.reset
    channels := resetChannels
    locks := Vector.replicate 4 none
    ops := OpEngine.reset
    notices := NoticeQueue.reset .power .slow
    line := Line.reset .slow
    delivery := Delivery.reset LinkParams.default
    handler := Handler.reset .power
    resetHeld := false
    choices := 0
    pending := [] }

end Sys2Proof.Machine
end

