-- ==== Sys2Proof/Machine/Layout.lean ====
section
/-! DEFINITION. Characters of the line, frames, their CRC, the byte layouts of payloads and the code tables (R156 to R158, R185 to R188). -/

namespace Sys2Proof.Machine

/-! ## Byte order (R185) -/

/-- The `k` low bytes of a number, least significant first. -/
def bytesLE : Nat → Nat → List Byte
  | 0, _ => []
  | k + 1, n => BitVec.ofNat 8 n :: bytesLE k (n / 256)

/-- A signed field of 4 bytes in two's complement, least significant first. -/
def signedLE (i : Int) : List Byte := bytesLE 4 (BitVec.ofInt 32 i).toNat

/-- The number that bytes spell, least significant first. -/
def numberLE : List Byte → Nat
  | [] => 0
  | b :: bs => b.toNat + 256 * numberLE bs

/-- The field of `size` bytes at an offset of a payload. -/
def fieldAt (payload : List Byte) (offset size : Nat) : Nat :=
  numberLE ((payload.drop offset).take size)

/-- An optional unsigned field of `k` bytes: zero bytes when absent (R185). -/
def optionalLE (k : Nat) (v : Option Nat) : List Byte := bytesLE k (v.getD 0)

/-- An optional signed field: zero bytes when absent (R185). -/
def optionalSignedLE (v : Option Int) : List Byte := signedLE (v.getD 0)

/-- A code as one byte. -/
def codeByte (n : Nat) : Byte := BitVec.ofNat 8 n

/-- A flags byte: bit i is set when the i-th entry is. -/
def flagsByte (bits : List Bool) : Byte :=
  codeByte (bits.foldr (fun b n => 2 * n + b.toNat) 0)

/-! ## Characters (R156) -/

/-- Bit-times of one character, a byte-time: start bit, 8 data bits, stop bit (R156). -/
def bitTimesPerByte : Nat := 10

/-- Bit-times per second at a line speed (R156). -/
def LineSpeed.bitRate : LineSpeed → Nat
  | .slow => 115200
  | .fast => 460800

/-- A byte as a character on the line, one level for each bit-time, high being true: a low start bit, the 8 data bits
least significant first, no parity bit, a high stop bit (R156). -/
def characterLevels (b : Byte) : List Bool := false :: (List.range 8).map b.getLsbD ++ [true]

/-- The byte that the receiver takes from the levels of a character: its data bits, least significant first. The stop bit
is not looked at, so a character whose stop bit is low is a byte like any other, and a line held low gives 00h (R156). -/
def characterByte (levels : List Bool) : Byte := flagsByte ((levels.drop 1).take 8)

/-! ## CRC (R158) -/

/-- One shift of the check register with the generator polynomial 1021h. -/
def crcShift (r : CrcWord) : CrcWord :=
  if r.msb then (r <<< 1) ^^^ 0x1021#16 else r <<< 1

/-- One covered byte, most significant bit first. -/
def crcByte (r : CrcWord) (b : Byte) : CrcWord :=
  crcShift (crcShift (crcShift (crcShift (crcShift (crcShift (crcShift (crcShift
    (r ^^^ ((b.setWidth 16) <<< 8)))))))))

/-- The check over the covered bytes, starting from FFFFh. -/
def crcOf (covered : List Byte) : CrcWord := covered.foldl crcByte 0xFFFF#16

/-- The two CRC bytes as they are sent, low byte first. -/
def crcBytes (r : CrcWord) : List Byte := [r.setWidth 8, (r >>> 8).setWidth 8]

/-! ## Frames (R157) -/

/-- The body of a frame. -/
def Frame.body (f : Frame) : List Byte := f.kind :: f.tag :: f.payload

/-- The bytes that the CRC of a frame covers: the length byte and the body. -/
def Frame.covered (f : Frame) : List Byte := codeByte f.body.length :: f.body

/-- The bytes of a frame on the line: start byte, length, body, CRC. -/
def Frame.bytes (f : Frame) : List Byte := 0xE7#8 :: (f.covered ++ crcBytes (crcOf f.covered))

/-- The frame that a received body spells. -/
def frameOfBody (body : List Byte) : Frame :=
  { kind := body.getD 0 0, tag := body.getD 1 0, payload := body.drop 2 }

/-! ## Codes (R188) -/

def ChanState.code : ChanState → Nat
  | .off => 0 | .settling => 1 | .idle => 2 | .arming => 3 | .active => 4 | .releasing => 5 | .calibrating => 6
  | .fault => 7 | .unknown => 8 | .inside => 9 | .above => 10 | .below => 11 | .live => 12

/-- The detector state that a zone is (R113). -/
def Zone.state : Zone → ChanState
  | .below => .below | .inside => .inside | .above => .above

def Reason.code : Reason → Nat
  | .settled => 1 | .touch => 2 | .release => 3 | .holdTimeout => 4 | .zone => 5 | .fault => 6 | .recover => 7
  | .config => 8 | .calibrating => 9 | .calibrated => 10 | .calAborted => 11

def DiscardCause.code : DiscardCause → Nat
  | .crc => 1 | .length => 2 | .gap => 3 | .queueFull => 4 | .foreign => 5

def ResetKind.code : ResetKind → Nat
  | .power => 1 | .pin => 2 | .soft => 3

def Source.code : Source → Nat
  | .oscCap => 0 | .oscRes => 1 | .ext => 2

def Mode.code : Mode → Nat
  | .gated => 0 | .period => 1 | .interval => 2

def EdgePair.code : EdgePair → Nat
  | .riseRise => 0 | .fallFall => 1 | .riseFall => 2 | .fallRise => 3

def Detector.code : Detector → Nat
  | .plain => 0 | .delta => 1 | .window => 2

def Direction.code : Direction → Nat
  | .falling => 0 | .rising => 1

def ResultMode.code : ResultMode → Nat
  | .never => 0 | .every => 1 | .change => 2

def SeqMode.code : SeqMode → Nat
  | .stopped => 0 | .running => 1 | .single => 2 | .watch => 3

def DeliveryState.code : DeliveryState → Nat
  | .opened => 0 | .resend => 1 | .stalled => 2 | .hold => 3

def OpKind.code : OpKind → Nat
  | .calibrate => 1 | .measure => 2

/-- Entry outcomes. A PENDING entry is in no record; R188 gives it no code. -/
def EntryOutcome.code : EntryOutcome → Nat
  | .pending => 0 | .complete => 1 | .failed => 2 | .noSignal => 3 | .cancelled => 4 | .aborted => 5

def ScanEvent.code : ScanEvent → Nat
  | .done => 1 | .overrun => 2 | .woke _ => 3

def WakeReason.code : WakeReason → Nat
  | .detect => 1 | .host => 2

def LineSpeed.code : LineSpeed → Nat
  | .slow => 0 | .fast => 1

/-- The number of a channel's group, 0 for none (R3). -/
def groupNumber : Option LockId → Nat
  | none => 0
  | some g => g.val + 1

/-! ## Request kinds (R188) -/

/-- The defined request kinds, 01h to 0Eh. -/
inductive RequestKind
  | ping | getStatus | setLink | setChannel | getChannel | setScan | getScan | scanStart | scanStop | calibrate
  | measure | abortOp | flushNotices | resetPart
deriving DecidableEq, Repr

def RequestKind.code : RequestKind → Byte
  | .ping => 0x01#8 | .getStatus => 0x02#8 | .setLink => 0x03#8 | .setChannel => 0x04#8 | .getChannel => 0x05#8
  | .setScan => 0x06#8 | .getScan => 0x07#8 | .scanStart => 0x08#8 | .scanStop => 0x09#8 | .calibrate => 0x0A#8
  | .measure => 0x0B#8 | .abortOp => 0x0C#8 | .flushNotices => 0x0D#8 | .resetPart => 0x0E#8

/-- The kind code of ACK frames. -/
def ackKind : Byte := 0x40#8

/-- Whether a kind is one of 01h to 0Eh. -/
def definedKind (k : Byte) : Bool := decide (1 ≤ k.toNat) && decide (k.toNat ≤ 14)

/-- Whether a kind is a part-to-host kind, 80h to FFh (R157). -/
def partKind (k : Byte) : Bool := decide (128 ≤ k.toNat)

/-! ## Notice payloads (R187) -/

/-- The flags of a RESULT record (bit 3 is not assigned). -/
def ResultRecord.flags (r : ResultRecord) : Byte :=
  flagsByte [r.noSignal, r.overrange, r.suppressed, false, r.raw.isSome, r.baseline.isSome, r.signal.isSome]

def OpDoneEntry.bytes (e : OpDoneEntry) : List Byte :=
  [codeByte e.channel.val, codeByte e.outcome.code, flagsByte [e.first.isSome, e.minMax.isSome], codeByte e.validCount]
    ++ optionalLE 3 e.first ++ optionalLE 3 (e.minMax.map (·.1)) ++ optionalLE 3 (e.minMax.map (·.2))

def ScanEvent.wakeReason : ScanEvent → Option WakeReason
  | .done => none
  | .overrun => none
  | .woke r => some r

def Record.payload : Record → List Byte
  | .hello k speed => codeByte k.code :: Config.identity ++ [codeByte (LineSpeed.code speed)]
  | .state r =>
    [codeByte r.channel.val, flagsByte [r.round.isSome, r.value.isSome]] ++ optionalLE 2 r.round
      ++ [codeByte r.previous.code, codeByte r.next.code, codeByte r.reason.code] ++ optionalSignedLE r.value
      ++ [0#8, 0#8, 0#8]
  | .result r =>
    [codeByte r.channel.val, r.flags] ++ bytesLE 2 r.round ++ [codeByte r.state.code] ++ optionalLE 3 r.raw
      ++ optionalLE 3 r.baseline ++ optionalSignedLE r.signal
  | .opDone r =>
    [codeByte r.opId, codeByte r.kind.code, codeByte r.aborted.toNat, codeByte r.entries.length]
      ++ (r.entries.map OpDoneEntry.bytes).flatten
  | .scan e round =>
    [codeByte e.code, flagsByte [e.wakeReason.isSome], codeByte ((e.wakeReason.map WakeReason.code).getD 0)]
      ++ bytesLE 2 round

def Record.kind : Record → Byte
  | .hello _ _ => 0xC1#8
  | .state _ => 0xC2#8
  | .result _ => 0xC3#8
  | .opDone _ => 0xC4#8
  | .scan _ _ => 0xC5#8

def NoticeBody.kind : NoticeBody → Byte
  | .record r => r.kind
  | .overflow _ => 0xC6#8

def NoticeBody.payload : NoticeBody → List Byte
  | .record r => r.payload
  | .overflow t => bytesLE 2 t.results ++ bytesLE 2 t.states ++ bytesLE 2 t.others

/-- The frame of a notice: its tag is the sequence number. It is the same frame at every transmission (R164). -/
def Notice.frame (n : Notice) : Frame :=
  { kind := n.body.kind, tag := codeByte n.seq, payload := n.body.payload }

/-! ## Replies (R180, R187) -/

/-- Reply status codes (R180). -/
inductive Status | ok | accepted | unknown | badLength | badValue | wrongState | noResource
deriving DecidableEq, Repr

def Status.code : Status → Nat
  | .ok => 0 | .accepted => 1 | .unknown => 2 | .badLength => 3 | .badValue => 4 | .wrongState => 5
  | .noResource => 6

/-- What a reply says after its kind and tag: the status and the rest of the payload. -/
structure Reply where
  status : Status
  rest : List Byte
deriving DecidableEq, Repr

/-- The reply OK with a payload. -/
def Reply.okWith (rest : List Byte) : Reply := { status := .ok, rest := rest }

/-- The reply OK with an empty payload. -/
def Reply.ok : Reply := Reply.okWith []

/-- A refusal: status and detail byte (R180). -/
structure Refused where
  status : Status
  detail : Byte
deriving DecidableEq, Repr

/-- The detail byte where no single payload byte is named (R180). -/
def noOffset : Byte := 0xFF#8

def Refused.badValue (offset : Nat) : Refused := { status := .badValue, detail := codeByte offset }

def Refused.wrongState : Refused := { status := .wrongState, detail := noOffset }

def Refused.reply (r : Refused) : Reply := { status := r.status, rest := [r.detail] }

/-- The reply frame to a request: its kind plus 80h, its tag, the status byte first (R180). -/
def replyFrame (request : Frame) (r : Reply) : Frame :=
  { kind := request.kind + 0x80#8, tag := request.tag, payload := codeByte r.status.code :: r.rest }

/-! ## Channel, scan list and status payloads (R186, R187) -/

/-- The SET_CHANNEL payload of a channel's configuration, 44 bytes (R186). -/
def configBytes (n : ChanId) (c : ChannelConfig) : List Byte :=
  [codeByte n.val, codeByte c.enable.toNat, codeByte c.measuring.pin.val, codeByte c.measuring.source.code,
    codeByte c.measuring.mode.code, codeByte c.measuring.prescale]
  ++ bytesLE 2 c.measuring.gateLength ++ bytesLE 2 c.measuring.cycleCount ++ [codeByte c.measuring.edgePair.code]
  ++ bytesLE 2 c.measuring.timeout
  ++ [codeByte c.measuring.settleCycles, codeByte c.measuring.driveLevel.val, codeByte c.detector.code,
    codeByte c.delta.direction.code]
  ++ bytesLE 2 c.delta.onThreshold ++ bytesLE 2 c.delta.offThreshold
  ++ bytesLE 3 c.window.lowLimit ++ bytesLE 3 c.window.highLimit ++ bytesLE 3 c.window.hysteresis
  ++ [codeByte c.debounceOn, codeByte c.debounceOff, codeByte c.delta.settleCount, codeByte c.delta.driftStep,
    codeByte c.delta.driftInterval, codeByte c.delta.reverseLimit]
  ++ bytesLE 2 c.delta.holdLimit
  ++ [codeByte c.faultLimit, codeByte (groupNumber c.delta.group), codeByte c.events.toNat,
    codeByte c.resultMode.code]
  ++ bytesLE 2 c.changeStep

/-- The live state of a channel in a GET_CHANNEL reply, offsets 45 to 73 (R187). -/
def liveBytes (l : LiveState) : List Byte :=
  [codeByte l.state.code,
    flagsByte [l.baseline.isSome, l.lastRaw.isSome, l.lastSignal.isSome, l.candidate.isSome, l.lastReported.isSome]]
  ++ optionalLE 3 l.baseline ++ bytesLE 4 l.settleSum ++ [codeByte l.settleSamples] ++ optionalLE 3 l.lastRaw
  ++ optionalSignedLE l.lastSignal
  ++ [codeByte l.debounce, codeByte ((l.candidate.map (fun z => z.state.code)).getD 0), codeByte l.suppressed.toNat]
  ++ bytesLE 2 l.activeResults ++ [codeByte l.driftCount, codeByte l.reverseCount, codeByte l.faultCount]
  ++ optionalSignedLE l.lastReported

/-- A scan entry in the SET_SCAN layout (R186). -/
def ScanEntry.bytes (e : ScanEntry) : List Byte :=
  [codeByte e.channel.val, codeByte e.divider, flagsByte [e.watch]]

/-- The GET_SCAN reply after its status byte (R187). -/
def scanBytes (q : Sequencer) : List Byte :=
  codeByte q.list.length :: ((q.list.map ScanEntry.bytes).flatten ++ bytesLE 2 q.runPeriod ++ bytesLE 2 q.watchPeriod)

/-- An operation in the GET_STATUS reply (R187). -/
def Operation.statusBytes (o : Operation) : List Byte :=
  [codeByte o.opId, codeByte o.kind.code, codeByte o.started.toNat, codeByte o.current]

end Sys2Proof.Machine
end

