-- ==== Sys2Proof/Machine/Notices.lean ====
section
/-! DEFINITION. The notice queue: arrival of a record, coalescing, displacement, the overflow tally (R140 to R147). -/

namespace Sys2Proof.Machine

/-- A saturating count: it stops at 65535 (R60, R146, R161). -/
def bump (n : Nat) : Nat := min (n + 1) Config.countMax

/-- Whether a record is a RESULT record of channel c. -/
def Record.isResultOf (c : ChanId) : Record → Bool
  | .result r => decide (r.channel = c)
  | .hello _ _ | .state _ | .opDone _ | .scan _ _ => false

/-- Whether a record is a STATE record of channel c. -/
def Record.isStateOf (c : ChanId) : Record → Bool
  | .state r => decide (r.channel = c)
  | .hello _ _ | .result _ | .opDone _ | .scan _ _ => false

/-- Whether a record is a RESULT record. -/
def Record.isResult : Record → Bool
  | .result _ => true
  | .hello _ _ | .state _ | .opDone _ | .scan _ _ => false

/-- Whether a record is a STATE record. -/
def Record.isState : Record → Bool
  | .state _ => true
  | .hello _ _ | .result _ | .opDone _ | .scan _ _ => false

/-- The queue, youngest first, with a new RESULT record written over the youngest RESULT record of its channel, unless
a STATE record of the channel stands after that one or there is none (R143). -/
def overwriteYoungest (new : ResultRecord) : List Record → Option (List Record)
  | [] => none
  | r :: rs =>
    if r.isResultOf new.channel then some (.result new :: rs)
    else if r.isStateOf new.channel then none
    else (overwriteYoungest new rs).map (r :: ·)

/-- The queue, oldest first, after coalescing, if the new RESULT record can be coalesced (R143). -/
def coalesce (new : ResultRecord) (q : List Record) : Option (List Record) :=
  (overwriteYoungest new q.reverse).map List.reverse

/-- The queue without its oldest RESULT record, if it holds one (R145). -/
def withoutOldestResult : List Record → Option (List Record)
  | [] => none
  | r :: rs => if r.isResult then some rs else (withoutOldestResult rs).map (r :: ·)

/-- What the coalescing of an arriving record gives: only a RESULT record coalesces (R143). -/
def coalesceRecord : Record → List Record → Option (List Record)
  | .result new, q => coalesce new q
  | .hello _ _, _ | .state _, _ | .opDone _, _ | .scan _ _, _ => none

def Tally.countResult (t : Tally) : Tally := { t with results := bump t.results }
def Tally.countState (t : Tally) : Tally := { t with states := bump t.states }
def Tally.countOther (t : Tally) : Tally := { t with others := bump t.others }

/-- The tally after a record has been discarded: the count of its kind (R144, R145, R146). -/
def Tally.countDiscard (t : Tally) (r : Record) : Tally :=
  if r.isResult then t.countResult else if r.isState then t.countState else t.countOther

/-- Whether all three counts are 0 (R146). -/
def Tally.isEmpty (t : Tally) : Bool := t.results == 0 && t.states == 0 && t.others == 0

/-- A record arriving at a full queue (R144, R145). -/
def NoticeQueue.arriveFull (r : Record) (q : NoticeQueue) : NoticeQueue × Bool :=
  if r.isResult then ({ q with tally := q.tally.countDiscard r }, false)
  else
    match withoutOldestResult q.records with
    | some rest => ({ records := rest ++ [r], tally := q.tally.countResult }, true)
    | none => ({ q with tally := q.tally.countDiscard r }, false)

/-- The arrival of a record: the queue after it, and whether the record was placed (R142). -/
def NoticeQueue.arrive (r : Record) (q : NoticeQueue) : NoticeQueue × Bool :=
  match coalesceRecord r q.records with
  | some records => ({ q with records := records }, true)
  | none =>
    if q.records.length < Config.noticeCapacity then ({ q with records := q.records ++ [r] }, true)
    else q.arriveFull r

/-- A record handed to the notice queue by a creator that does not read the outcome (R142). -/
def State.addRecord (r : Record) (s : State) : State := { s with notices := (s.notices.arrive r).1 }

end Sys2Proof.Machine
end

