-- ==== Sys2Proof/Machine/Arbiter.lean ====
section
/-! DEFINITION. The arbiter: units, cells and pin claims, grant passes and pass counts (R22 to R27, R35, R42 to R51). -/

namespace Sys2Proof.Machine

/-- Whether a source uses an oscillator cell (R2). -/
def Source.isOsc : Source → Bool
  | .oscCap => true
  | .oscRes => true
  | .ext => false

/-- The mode of a cell for a source: CAP for OSC_CAP, RES for OSC_RES (R23). -/
def Source.cellMode : Source → CellMode
  | .oscCap => .cap
  | .oscRes => .res
  | .ext => .cap

def Job.isScan (j : Job) : Bool :=
  match j.origin with
  | .scan _ _ => true
  | .op _ _ => false

def Job.isOp (j : Job) : Bool := !j.isScan

/-- Whether a job belongs to the operation with the given id (R41). -/
def Job.ofOp (id : Nat) (j : Job) : Bool :=
  match j.origin with
  | .scan _ _ => false
  | .op i _ => i == id

/-- Waiting scan jobs (R42). -/
def State.scanWaiting (s : State) : Nat := s.queue.countP Job.isScan

/-- Waiting operation jobs (R42). -/
def State.opWaiting (s : State) : Nat := s.queue.countP Job.isOp

/-! ## Counters of a unit (R21, R26) -/

/-- The tick period of a job in picoseconds: REFCLK divided by 2 to the power of its prescale code (R21). -/
def Measuring.tickPeriod (m : Measuring) : Nat := 2 ^ m.prescale * Config.refclkTime

/-- The tick counter: whole ticks since the count began (R21, R26). -/
def Running.ticks (r : Running) : Nat := r.tickTime / r.job.snapshot.tickPeriod

/-- The span counter: whole ticks since the span began (R21, R26). -/
def Running.spanTicks (r : Running) : Nat := r.spanTime / r.job.snapshot.tickPeriod

/-- Whether the unit counts over a gate: phase COUNT in mode GATED (R29). -/
def Running.gateOpen (r : Running) : Bool := r.phase == .count && r.job.snapshot.mode == .gated

/-- `dt` picoseconds pass at a unit: the tick counter runs in COUNT, the span counter in every phase that the timeout
bounds, each from its own event (R21, R28 to R32). DESIGN CHOICE, unsafe (log 28): over an open gate, where the spec says only that the span
counter is not read, it stands still. -/
def Running.pass (dt : Nat) (r : Running) : Running :=
  { r with
    tickTime := if r.phase = .count then r.tickTime + dt else r.tickTime
    spanTime := if r.gateOpen then r.spanTime else r.spanTime + dt }

/-- Whether the span that the timeout bounds is still running: always over an open gate (R29, R32). -/
def Running.inSpan (r : Running) : Bool := r.gateOpen || decide (r.spanTicks < r.job.snapshot.timeout)

/-! ## Resources (R22, R23, R44) -/

/-- The condition of a sense pin (R22). -/
def Resources.condition (res : Resources) (p : PinId) : PinCondition :=
  match res.claims[p] with
  | .free => .idle
  | .osc _ => .oscillator
  | .ext _ => .edgeInput

/-- The units that a grant pass may give, lowest first; in WATCH only CU0 (R47, R51). -/
def grantableUnits (watch : Bool) : List UnitId := if watch then [0] else [0, 1, 2, 3]

/-- The cells that a grant pass may give, lowest first; in WATCH only OC0 (R47, R51). -/
def grantableCells (watch : Bool) : List CellId := if watch then [0] else [0, 1]

/-- The lowest-numbered unit free for granting (R45, R47). -/
def Resources.freeUnit (watch : Bool) (res : Resources) : Option UnitId :=
  (grantableUnits watch).find? fun u => res.units[u].isNone

/-- The lowest-numbered cell free for granting (R45, R47). -/
def Resources.freeCell (watch : Bool) (res : Resources) : Option CellId :=
  (grantableCells watch).find? fun c => res.cells[c].isNone

/-- A claim entry after one more job has claimed the pin from unit u (R44). -/
def PinClaim.taken (osc : Bool) (u : UnitId) (c : PinClaim) : PinClaim :=
  if osc then .osc u
  else
    match c with
    | .free => .ext 1
    | .osc v => .osc v
    | .ext n => .ext (n + 1)

/-- A claim entry after one job's claim has been released (R35 step 3, R44). -/
def PinClaim.released : PinClaim → PinClaim
  | .free => .free
  | .osc _ => .free
  | .ext n => if n ≤ 1 then .free else .ext (n - 1)

/-- Whether a claim entry admits a job of the source (R45). -/
def PinClaim.admits (osc : Bool) : PinClaim → Bool
  | .free => true
  | .osc _ => false
  | .ext _ => !osc

/-- What a grantable job receives: a unit, and a cell for an oscillator source; none when it is not grantable (R45). -/
def Resources.offer (watch : Bool) (j : Job) (res : Resources) : Option (UnitId × Option CellId) :=
  match res.freeUnit watch with
  | none => none
  | some u =>
    if res.claims[j.snapshot.pin].admits j.snapshot.source.isOsc then
      if j.snapshot.source.isOsc then (res.freeCell watch).map fun c => (u, some c)
      else some (u, none)
    else none

/-- The first phase of a job (R27). -/
def firstPhase (m : Measuring) : Phase :=
  if m.source.isOsc && decide (0 < m.settleCycles) then .settle
  else if m.mode = .gated then .count
  else .arm

/-- A unit that has just taken a job: its first phase with every counter at 0 (R27). DESIGN CHOICE, unsafe (log 28): that
the span counter is 0 where the first phase is COUNT in GATED, in which it is not read. -/
def Running.start (j : Job) (cell : Option CellId) : Running :=
  { phase := firstPhase j.snapshot, job := j, cell := cell, edges := 0, tickTime := 0, spanTime := 0 }

/-- The cells after an optional cell has been given a new content. -/
def setCell (cells : Vector (Option CellHold) 2) (c : Option CellId) (h : Option CellHold) :
    Vector (Option CellHold) 2 :=
  match c with
  | none => cells
  | some c => cells.set c h

/-- The grant of a job: the claim is taken, the cell held, and the unit enters the job's first phase (R48 steps 2 to 4). -/
def Resources.grant (j : Job) (u : UnitId) (cell : Option CellId) (res : Resources) : Resources :=
  { claims := res.claims.set j.snapshot.pin (res.claims[j.snapshot.pin].taken j.snapshot.source.isOsc u)
    cells := setCell res.cells cell
      (some { pin := j.snapshot.pin, mode := j.snapshot.source.cellMode, driveLevel := j.snapshot.driveLevel })
    units := res.units.set u (some (Running.start j cell)) }

/-- The release of a unit that ran r: the unit is FREE, its cell free, its pin claim released (R35 steps 1 to 3). -/
def Resources.release (u : UnitId) (r : Running) (res : Resources) : Resources :=
  { claims := res.claims.set r.job.snapshot.pin res.claims[r.job.snapshot.pin].released
    cells := setCell res.cells r.cell none
    units := res.units.set u none }

/-- Units not in FREE (R40). -/
def Resources.unitsBusy (res : Resources) : Nat := res.units.toList.countP Option.isSome

/-- Cells held (R40). -/
def Resources.cellsHeld (res : Resources) : Nat := res.cells.toList.countP Option.isSome

/-! ## Grant passes (R45 to R51) -/

/-- The walk of a grant pass over the waiting jobs, oldest first: each job with whether it was granted, and the
resources that remain. A job that is not grantable and has the limiting pass count stops the walk (R47, R50). -/
def grantWalk (watch : Bool) : List Job → Resources → List (Job × Bool) × Resources
  | [], res => ([], res)
  | j :: js, res =>
    match res.offer watch j with
    | some (u, cell) =>
      let rest := grantWalk watch js (res.grant j u cell)
      ((j, true) :: rest.1, rest.2)
    | none =>
      if j.passCount < Config.passLimit then
        let rest := grantWalk watch js res
        ((j, false) :: rest.1, rest.2)
      else ((j, false) :: js.map (fun k => (k, false)), res)

/-- The jobs still waiting after a walk, each older than a granted job with its pass count raised by one, and whether
any job was granted (R49). -/
def raisePassCounts : List (Job × Bool) → List Job × Bool
  | [] => ([], false)
  | (j, granted) :: rest =>
    let r := raisePassCounts rest
    if granted then (r.1, true)
    else if r.2 then ({ j with passCount := j.passCount + 1 } :: r.1, true)
    else (j :: r.1, false)

/-- A grant pass (R47 to R49). -/
def State.grantPass (s : State) : State :=
  let walked := grantWalk (s.seq.mode == .watch) s.queue s.res
  { s with res := walked.2, queue := (raisePassCounts walked.1).1 }

/-- A job enters the queue at the young end with pass count 0, and a grant pass runs (R42, R46). -/
def State.enterJob (origin : Origin) (c : ChanId) (s : State) : State :=
  State.grantPass
    { s with queue := s.queue ++
        [{ origin := origin, channel := c, snapshot := s.channels[c].config.measuring, passCount := 0 }] }

end Sys2Proof.Machine
end

