-- ==== Sys2Proof/Machine/Tracker.lean ====
section
/-! DEFINITION. The tracker: the DELTA, WINDOW and NONE detectors as functions of a channel's configuration and live
state, the group locks, and the STATE and RESULT records of a scan result (R79 to R122). -/

namespace Sys2Proof.Machine

/-- What a detector does to its group lock (R91, R102). -/
inductive LockAction | keep | take | free
deriving DecidableEq, Repr

/-- A reported transition: its reason and the value its record carries (R81, R104, R115). -/
structure Transition where
  reason : Reason
  value : Option Int
deriving DecidableEq, Repr

/-- What a detector makes of one result: the live state, what happens to the lock, the transition to report. -/
structure Verdict where
  live : LiveState
  lock : LockAction
  transition : Option Transition
deriving DecidableEq, Repr

/-- A verdict that reports nothing and leaves the lock alone. -/
def Verdict.quiet (l : LiveState) : Verdict := { live := l, lock := .keep, transition := none }

/-- A verdict that reports a transition and leaves the lock alone. -/
def Verdict.report (l : LiveState) (reason : Reason) (value : Option Int) : Verdict :=
  { live := l, lock := .keep, transition := some { reason := reason, value := value } }

/-- Entry to FAULT: the live state cleared with state FAULT, the lock freed, a FAULT transition (R83, R110, R116). -/
def Verdict.enterFault : Verdict :=
  { live := LiveState.cleared .fault, lock := .free, transition := some { reason := .fault, value := none } }

/-- An invalid result in a state that counts faults (R82, R110, R116). -/
def countFault (cfg : ChannelConfig) (l : LiveState) : Verdict :=
  if cfg.faultLimit ≤ l.faultCount + 1 then Verdict.enterFault
  else Verdict.quiet { l with faultCount := l.faultCount + 1 }

/-! ## DELTA (R79 to R95) -/

/-- The signal of a raw value against a baseline in a direction (R80). -/
def signalOf (d : Direction) (baseline raw : Nat) : Int :=
  match d with
  | .falling => (baseline : Int) - raw
  | .rising => (raw : Int) - baseline

/-- The detector states in which a channel holds a baseline (R9, R79). -/
def ChanState.hasBaseline : ChanState → Bool
  | .idle | .arming | .active | .releasing => true
  | .off | .settling | .calibrating | .fault | .unknown | .inside | .above | .below | .live => false

/-- The baseline moved toward raw by the step or by the distance between them, whichever is smaller (R89). -/
def driftToward (step raw baseline : Nat) : Nat :=
  if baseline ≤ raw then baseline + min step (raw - baseline) else baseline - min step (baseline - raw)

/-- A valid result in SETTLING (R85, R86). -/
def settlingResult (cfg : ChannelConfig) (raw : Nat) (l : LiveState) : Verdict :=
  if cfg.delta.settleCount ≤ l.settleSamples + 1 then
    Verdict.report
      { l with
        state := .idle, baseline := some ((l.settleSum + raw) / cfg.delta.settleCount), settleSum := 0
        settleSamples := 0, driftCount := 0, reverseCount := 0, lastReported := none }
      .settled (some (((l.settleSum + raw) / cfg.delta.settleCount : Nat) : Int))
  else Verdict.quiet { l with settleSum := l.settleSum + raw, settleSamples := l.settleSamples + 1 }

/-- An attempt at ACTIVE (R91). `lockOpen` says that the channel has no group, or that the group's lock is free or held
by the channel. -/
def attemptActive (cfg : ChannelConfig) (lockOpen : Bool) (signal : Int) (l : LiveState) : Verdict :=
  if lockOpen then
    { live := { l with state := .active, debounce := 0, activeResults := 0, suppressed := false }
      lock := .take
      transition := some { reason := .touch, value := some signal } }
  else Verdict.quiet { l with state := .arming, debounce := cfg.debounceOn, suppressed := true }

/-- A valid result in IDLE, by its signal class (R87, R88, R89). -/
def idleResult (cfg : ChannelConfig) (lockOpen : Bool) (raw baseline : Nat) (signal : Int) (l : LiveState) : Verdict :=
  if (cfg.delta.onThreshold : Int) ≤ signal then
    if cfg.debounceOn ≤ 1 then attemptActive cfg lockOpen signal { l with reverseCount := 0, debounce := 1 }
    else Verdict.quiet { l with state := .arming, reverseCount := 0, debounce := 1 }
  else if signal ≤ -(cfg.delta.offThreshold : Int) then
    if cfg.delta.reverseLimit ≤ l.reverseCount + 1 then
      Verdict.quiet { l with baseline := some raw, reverseCount := 0 }
    else Verdict.quiet { l with reverseCount := l.reverseCount + 1 }
  else if cfg.delta.driftInterval ≤ l.driftCount + 1 then
    Verdict.quiet
      { l with
        reverseCount := 0, driftCount := 0, baseline := some (driftToward cfg.delta.driftStep raw baseline) }
  else Verdict.quiet { l with reverseCount := 0, driftCount := l.driftCount + 1 }

/-- A valid result in ARMING (R90). -/
def armingResult (cfg : ChannelConfig) (lockOpen : Bool) (signal : Int) (l : LiveState) : Verdict :=
  if (cfg.delta.onThreshold : Int) ≤ signal then
    if l.suppressed then attemptActive cfg lockOpen signal l
    else if cfg.debounceOn ≤ l.debounce + 1 then
      attemptActive cfg lockOpen signal { l with debounce := l.debounce + 1 }
    else Verdict.quiet { l with debounce := l.debounce + 1 }
  else Verdict.quiet { l with state := .idle, debounce := 0, suppressed := false }

/-- The end of a touch: IDLE with the counts at 0 and the lock freed (R92, R94). -/
def endTouch (reason : Reason) (signal : Int) (l : LiveState) : Verdict :=
  { live := { l with state := .idle, debounce := 0, activeResults := 0, driftCount := 0, reverseCount := 0 }
    lock := .free
    transition := some { reason := reason, value := some signal } }

/-- A result in ACTIVE or RELEASING that the hold limit has not ended (R93, R94). -/
def judgeRelease (cfg : ChannelConfig) (signal : Int) (l : LiveState) : Verdict :=
  if signal ≤ (cfg.delta.offThreshold : Int) then
    if l.state = .releasing then
      if cfg.debounceOff ≤ l.debounce + 1 then endTouch .release signal l
      else Verdict.quiet { l with debounce := l.debounce + 1 }
    else if cfg.debounceOff ≤ 1 then endTouch .release signal l
    else Verdict.quiet { l with state := .releasing, debounce := 1 }
  else Verdict.quiet { l with state := .active, debounce := 0 }

/-- A valid result in ACTIVE or RELEASING: the active results count first, then the hold limit (R92 to R94). -/
def touchedResult (cfg : ChannelConfig) (raw : Nat) (signal : Int) (l : LiveState) : Verdict :=
  let counted := bump l.activeResults
  if 0 < cfg.delta.holdLimit ∧ cfg.delta.holdLimit ≤ counted then
    endTouch .holdTimeout signal { l with baseline := some raw }
  else judgeRelease cfg signal { l with activeResults := counted }

/-- A valid result of a DELTA channel, its fault count already 0 (R84). -/
def deltaValid (cfg : ChannelConfig) (lockOpen : Bool) (raw : Nat) (l : LiveState) : Verdict :=
  match l.state, l.baseline with
  | .settling, _ => settlingResult cfg raw l
  | .idle, some b => idleResult cfg lockOpen raw b (signalOf cfg.delta.direction b raw) l
  | .arming, some b => armingResult cfg lockOpen (signalOf cfg.delta.direction b raw) l
  | .active, some b => touchedResult cfg raw (signalOf cfg.delta.direction b raw) l
  | .releasing, some b => touchedResult cfg raw (signalOf cfg.delta.direction b raw) l
  | .fault, _ => Verdict.report { l with state := .settling, settleSum := 0, settleSamples := 0 } .recover none
  | _, _ => Verdict.quiet l

/-- An invalid result of a DELTA channel (R82, R95). -/
def deltaInvalid (cfg : ChannelConfig) (l : LiveState) : Verdict :=
  match l.state with
  | .settling | .idle | .arming | .active | .releasing => countFault cfg l
  | .off | .calibrating | .fault | .unknown | .inside | .above | .below | .live => Verdict.quiet l

/-- The DELTA detector (R81 steps 1 and 2). -/
def deltaResult (cfg : ChannelConfig) (lockOpen : Bool) (r : Reading) (l : LiveState) : Verdict :=
  match r with
  | .value raw => deltaValid cfg lockOpen raw { l with faultCount := 0 }
  | .noSignal => deltaInvalid cfg l
  | .overrange => deltaInvalid cfg l

/-! ## WINDOW (R107 to R115) -/

/-- The effective low limit of a state (R108). -/
def effectiveLow (w : WindowFields) (st : ChanState) : Nat :=
  if st = .below then w.lowLimit + w.hysteresis else w.lowLimit

/-- The effective high limit of a state (R108). -/
def effectiveHigh (w : WindowFields) (st : ChanState) : Nat :=
  if st = .above then w.highLimit - w.hysteresis else w.highLimit

/-- The zone of a raw value under the effective limits of a state (R108). -/
def zoneOf (w : WindowFields) (st : ChanState) (raw : Nat) : Zone :=
  if raw < effectiveLow w st then .below
  else if effectiveHigh w st < raw then .above
  else .inside

/-- The debounce count of a zone: one more in the candidate zone, 1 in a new one (R111, R112). -/
def candidateCount (z : Zone) (l : LiveState) : Nat := if l.candidate = some z then l.debounce + 1 else 1

/-- The count that changes the zone: debounce off for a return to INSIDE, debounce on otherwise and in UNKNOWN
(R111, R112). -/
def zoneLimit (cfg : ChannelConfig) (st : ChanState) (z : Zone) : Nat :=
  if st ≠ .unknown ∧ z = .inside then cfg.debounceOff else cfg.debounceOn

/-- A valid result in a zone state or UNKNOWN (R111, R112, R113). -/
def windowZone (cfg : ChannelConfig) (raw : Nat) (l : LiveState) : Verdict :=
  let z := zoneOf cfg.window l.state raw
  if z.state = l.state then Verdict.quiet { l with candidate := none, debounce := 0 }
  else if zoneLimit cfg l.state z ≤ candidateCount z l then
    Verdict.report { l with state := z.state, candidate := none, debounce := 0 } .zone (some (raw : Int))
  else Verdict.quiet { l with candidate := some z, debounce := candidateCount z l }

/-- A valid result of a WINDOW channel, its fault count already 0 (R109, R114). -/
def windowValid (cfg : ChannelConfig) (raw : Nat) (l : LiveState) : Verdict :=
  match l.state with
  | .unknown | .inside | .above | .below => windowZone cfg raw l
  | .fault => Verdict.report { l with state := .unknown, candidate := none, debounce := 0 } .recover none
  | .off | .settling | .idle | .arming | .active | .releasing | .calibrating | .live => Verdict.quiet l

/-- An invalid result of a WINDOW channel (R110, R114). -/
def windowInvalid (cfg : ChannelConfig) (l : LiveState) : Verdict :=
  match l.state with
  | .unknown | .inside | .above | .below => countFault cfg l
  | .off | .settling | .idle | .arming | .active | .releasing | .calibrating | .fault | .live => Verdict.quiet l

/-- The WINDOW detector (R109 steps 1 and 2). -/
def windowResult (cfg : ChannelConfig) (r : Reading) (l : LiveState) : Verdict :=
  match r with
  | .value raw => windowValid cfg raw { l with faultCount := 0 }
  | .noSignal => windowInvalid cfg l
  | .overrange => windowInvalid cfg l

/-! ## NONE (R116) -/

/-- A valid result of a NONE channel, its fault count already 0 (R116). -/
def plainValid (l : LiveState) : Verdict :=
  match l.state with
  | .fault => Verdict.report { l with state := .live } .recover none
  | .off | .settling | .idle | .arming | .active | .releasing | .calibrating | .unknown | .inside | .above | .below
  | .live => Verdict.quiet l

/-- An invalid result of a NONE channel (R116). -/
def plainInvalid (cfg : ChannelConfig) (l : LiveState) : Verdict :=
  match l.state with
  | .live => countFault cfg l
  | .off | .settling | .idle | .arming | .active | .releasing | .calibrating | .fault | .unknown | .inside | .above
  | .below => Verdict.quiet l

/-- The NONE detector (R109, R116). -/
def plainResult (cfg : ChannelConfig) (r : Reading) (l : LiveState) : Verdict :=
  match r with
  | .value _ => plainValid { l with faultCount := 0 }
  | .noSignal => plainInvalid cfg l
  | .overrange => plainInvalid cfg l

/-- The detector that the configuration selects (R5). -/
def detect (cfg : ChannelConfig) (lockOpen : Bool) (r : Reading) (l : LiveState) : Verdict :=
  match cfg.detector with
  | .delta => deltaResult cfg lockOpen r l
  | .window => windowResult cfg r l
  | .plain => plainResult cfg r l

/-! ## After the detector (R10, R117 to R120) -/

/-- The raw value a reading carries (R33). -/
def Reading.raw : Reading → Option Nat
  | .value raw => some raw
  | .noSignal => none
  | .overrange => some Config.rawMax

/-- Whether a reading is valid (R81, R109). -/
def Reading.isValid : Reading → Bool
  | .value _ => true
  | .noSignal => false
  | .overrange => false

/-- Last raw and last signal after processing (R10). -/
def LiveState.withLast (cfg : ChannelConfig) (r : Reading) (l : LiveState) : LiveState :=
  { l with
    lastRaw := r.raw
    lastSignal := r.raw.bind fun raw => l.baseline.map fun b => signalOf cfg.delta.direction b raw }

/-- The compared value of the result just taken (R118). -/
def LiveState.compared (l : LiveState) : Option Int :=
  match l.lastSignal with
  | some v => some v
  | none => l.lastRaw.map fun raw => (raw : Int)

/-- Whether CHANGE mode reports a compared value (R117, R118). -/
def changeDue (step : Nat) (compared last : Option Int) : Bool :=
  match compared, last with
  | none, _ => false
  | some _, none => true
  | some v, some w => decide (step ≤ (v - w).natAbs)

/-- Whether the result just taken creates a RESULT record (R117). -/
def resultDue (cfg : ChannelConfig) (r : Reading) (l : LiveState) : Bool :=
  match cfg.resultMode with
  | .never => false
  | .every => true
  | .change => r.isValid && changeDue cfg.changeStep l.compared l.lastReported

/-- The RESULT record of the result just taken (R120). -/
def resultRecord (c : ChanId) (round : Nat) (r : Reading) (l : LiveState) : ResultRecord :=
  { channel := c, round := round, noSignal := r == .noSignal, overrange := r == .overrange
    suppressed := l.suppressed, state := l.state, raw := l.lastRaw, baseline := l.baseline, signal := l.lastSignal }

/-- The last reported value after a RESULT record has been handed to the notice queue (R119). -/
def LiveState.reported (placed : Bool) (l : LiveState) : LiveState :=
  if placed then
    match l.compared with
    | some v => { l with lastReported := some v }
    | none => l
  else l

/-! ## Locks (R91, R100 to R102) -/

/-- Whether an attempt of channel c at ACTIVE finds its lock open (R91). -/
def lockOpenFor (c : ChanId) (group : Option LockId) (locks : Vector (Option ChanId) 4) : Bool :=
  match group with
  | none => true
  | some g => locks[g].isNone || locks[g] == some c

/-- The locks after channel c has freed the lock of its group, if it holds it (R102). -/
def freeLock (c : ChanId) (group : Option LockId) (locks : Vector (Option ChanId) 4) : Vector (Option ChanId) 4 :=
  match group with
  | none => locks
  | some g => if locks[g] = some c then locks.set g none else locks

/-- The locks after channel c has taken the lock of its group (R91). -/
def takeLock (c : ChanId) (group : Option LockId) (locks : Vector (Option ChanId) 4) : Vector (Option ChanId) 4 :=
  match group with
  | none => locks
  | some g => locks.set g (some c)

/-- The locks after a verdict on channel c. -/
def LockAction.apply (c : ChanId) (group : Option LockId) (a : LockAction) (locks : Vector (Option ChanId) 4) :
    Vector (Option ChanId) 4 :=
  match a with
  | .keep => locks
  | .take => takeLock c group locks
  | .free => freeLock c group locks

/-! ## The tracker's changes of State -/

/-- The live state of channel c replaced. -/
def State.setLive (c : ChanId) (l : LiveState) (s : State) : State :=
  { s with channels := s.channels.set c { s.channels[c] with live := l } }

/-- The STATE record of a transition of channel c, created if its events field is ON (R6, R104). -/
def State.addStateRecord (c : ChanId) (round : Option Nat) (previous next : ChanState) (reason : Reason)
    (value : Option Int) (s : State) : State :=
  if s.channels[c].config.events then
    s.addRecord (.state { channel := c, round := round, previous := previous, next := next, reason := reason
                          value := value })
  else s

/-- The RESULT record of the result just taken, if its result mode asks for one, and the last reported value (R81 step 5,
R109 step 5, R117 to R119). -/
def State.addResultRecord (c : ChanId) (round : Nat) (r : Reading) (s : State) : State :=
  if resultDue s.channels[c].config r s.channels[c].live then
    let arrival := s.notices.arrive (.result (resultRecord c round r s.channels[c].live))
    State.setLive c (s.channels[c].live.reported arrival.2) { s with notices := arrival.1 }
  else s

/-- A reported transition of a scan result becomes a STATE record (R81 step 3, R109 step 3). -/
def State.addTransition (c : ChanId) (round : Nat) (previous : ChanState) (v : Verdict) (s : State) : State :=
  match v.transition with
  | none => s
  | some t => s.addStateRecord c (some round) previous v.live.state t.reason t.value

/-- The verdict of channel c's detector on a reading (R81 steps 1 and 2, R109 steps 1 and 2). -/
def State.verdict (c : ChanId) (r : Reading) (s : State) : Verdict :=
  detect s.channels[c].config (lockOpenFor c s.channels[c].config.delta.group s.locks) r s.channels[c].live

/-- Whether a verdict is reported to the sequencer as a wake: TOUCH, ZONE or FAULT (R74, R81 step 6, R109 step 6). -/
def Verdict.wakes (v : Verdict) : Bool :=
  match v.transition with
  | none => false
  | some t => t.reason == .touch || t.reason == .zone || t.reason == .fault

/-- The tracker takes a scan result of channel c whole, but for the wake report (R81, R109). -/
def State.trackResult (c : ChanId) (round : Nat) (r : Reading) (s : State) : State :=
  let v := s.verdict c r
  let cfg := s.channels[c].config
  let decided : State := State.setLive c v.live { s with locks := v.lock.apply c cfg.delta.group s.locks }
  let recorded := decided.addTransition c round s.channels[c].live.state v
  let lasted := recorded.setLive c (v.live.withLast cfg r)
  lasted.addResultRecord c round r

/-! ## Calibration (R96 to R99) -/

/-- The start of the calibration of channel c (R96). -/
def State.startCalibration (c : ChanId) (s : State) : State :=
  State.addStateRecord c none s.channels[c].live.state .calibrating .calibrating none
    (State.setLive c (LiveState.cleared .calibrating)
      { s with locks := freeLock c s.channels[c].config.delta.group s.locks })

/-- The end of a calibration with a new baseline (R97). -/
def State.endCalibration (c : ChanId) (baseline : Nat) (s : State) : State :=
  State.addStateRecord c none .calibrating .idle .calibrated (some (baseline : Int))
    (State.setLive c
      { s.channels[c].live with
        state := .idle, baseline := some baseline, debounce := 0, activeResults := 0, driftCount := 0
        reverseCount := 0, faultCount := 0, suppressed := false } s)

/-- A failed calibration: entry to FAULT with no round and no wake report (R98). -/
def State.failCalibration (c : ChanId) (s : State) : State :=
  State.addStateRecord c none .calibrating .fault .fault none
    (State.setLive c (LiveState.cleared .fault)
      { s with locks := freeLock c s.channels[c].config.delta.group s.locks })

/-- An aborted calibration (R99). -/
def State.abortCalibration (c : ChanId) (s : State) : State :=
  State.addStateRecord c none .calibrating .settling .calAborted none
    (State.setLive c { s.channels[c].live with state := .settling, settleSum := 0, settleSamples := 0 } s)

end Sys2Proof.Machine
end

