-- ==== Sys2Proof/Machine/Rounds.lean ====
section
/-! DEFINITION. The rounds of the scan sequencer: begin, issue of one entry, end reports, completion (R57 to R72). -/

namespace Sys2Proof.Machine

/-- Whether a channel may be scanned now: enable ON and not CALIBRATING (R68 step 4, R69). -/
def State.scannable (c : ChanId) (s : State) : Bool :=
  s.channels[c].config.enable && s.channels[c].live.state != .calibrating

/-- Whether an entry is due in a round (R57, R68 step 3). -/
def ScanEntry.due (mode : SeqMode) (round : Nat) (e : ScanEntry) : Bool :=
  round % e.divider == 0 && (mode != .watch || e.watch)

/-- The indexes, from `i` on, of the entries that are due and eligible in a round (R68 steps 3 and 4). -/
def State.eligibleFrom (s : State) (round : Nat) : Nat → List ScanEntry → List Nat
  | _, [] => []
  | i, e :: es =>
    if e.due s.seq.mode round && s.scannable e.channel then i :: State.eligibleFrom s round (i + 1) es
    else State.eligibleFrom s round (i + 1) es

/-- The round number after n, wrapping from 65535 to 0 (R60, R68). -/
def nextRound (n : Nat) : Nat := (n + 1) % 65536

/-- A round begins: its number, its sub-state and its eligible entries. Issue follows in `State.drive` (R68). -/
def State.roundBegin (s : State) : State :=
  { s with
    seq :=
      { s.seq with
        round := nextRound s.seq.round, inRound := true, issuePos := 0, outstanding := []
        eligible := s.eligibleFrom (nextRound s.seq.round) 0 s.seq.list } }

/-- Whether the round in progress is over: issue has ended and no job is outstanding (R70, R71). -/
def Sequencer.roundOver (q : Sequencer) : Bool :=
  q.inRound && decide (q.list.length ≤ q.issuePos) && q.outstanding.isEmpty

/-- The round in progress completes (R71, R72). -/
def State.completeRound (s : State) : State :=
  let between : State := { s with seq := { s.seq with inRound := false, issuePos := 0, eligible := [] } }
  match s.seq.mode with
  | .stopped => between
  | .running | .watch =>
    if s.seq.heldStart then
      State.roundBegin { between with seq := { between.seq with heldStart := false } }
    else between
  | .single =>
    State.addRecord (.scan .done s.seq.round) { between with seq := { between.seq with mode := .stopped } }

/-- The round completes if it is over. -/
def State.completeIfOver (s : State) : State := if s.seq.roundOver then s.completeRound else s

/-- The sequencer takes the end report of a scan job (R70). -/
def State.endReport (entry round : Nat) (s : State) : State :=
  if s.seq.inRound = true ∧ s.seq.round = round ∧ entry ∈ s.seq.outstanding then
    State.completeIfOver { s with seq := { s.seq with outstanding := s.seq.outstanding.erase entry } }
  else s

/-- The entry at the issue position, while a round is in progress and issue has not ended (R69). -/
def Sequencer.atPosition (q : Sequencer) : Option ScanEntry := if q.inRound then q.list[q.issuePos]? else none

/-- Whether the entry at the issue position was dropped at the begin of the round (R68 step 4). -/
def Sequencer.dropped (q : Sequencer) : Bool := !(q.eligible.contains q.issuePos)

/-- The issue position moves past the entry it stands at (R69). -/
def State.passEntry (s : State) : State := { s with seq := { s.seq with issuePos := s.seq.issuePos + 1 } }

/-- The entry at the issue position is issued as a scan job (R69). -/
def State.issueEntry (e : ScanEntry) (s : State) : State :=
  State.enterJob (.scan s.seq.issuePos s.seq.round) e.channel
    { s with
      seq :=
        { s.seq with outstanding := s.seq.outstanding ++ [s.seq.issuePos], issuePos := s.seq.issuePos + 1 } }

/-- The beginning of a run: both flags of the run are cleared (R61). -/
def State.beginRun (mode : SeqMode) (s : State) : State :=
  { s with seq := { s.seq with mode := mode, overrunReported := false, heldStart := false } }

/-- A timer started from zero with a period in ms (R66, R167). -/
def Timer.start (period : Nat) : Timer := { period := period, elapsed := 0 }

end Sys2Proof.Machine
end

