-- ==== Sys2Proof/Machine/Engine.lean ====
section
/-! DEFINITION. The operation engine: its table, samples, outcomes and OP_DONE records (R123 to R134). -/

namespace Sys2Proof.Machine

/-- A fresh entry (R123). -/
def OpEntry.fresh (c : ChanId) : OpEntry :=
  { channel := c, taken := 0, valid := 0, sum := 0, minMax := none, outcome := .pending }

/-- Whether an entry is PENDING (R123). -/
def OpEntry.isPending (e : OpEntry) : Bool := e.outcome == .pending

/-- The id after an id, 255 followed by 1 (R124). -/
def nextOpId (n : Nat) : Nat := if n = 255 then 1 else n + 1

/-- The first id, counting upward from a start, that no operation of the table holds. The table leaves one free within
five steps, so `fuel` 5 suffices (R124). -/
def firstFreeId (table : List Operation) : Nat → Nat → Nat
  | 0, n => n
  | fuel + 1, n => if table.any (fun o => o.opId == n) then firstFreeId table fuel (nextOpId n) else n

/-- The id that the next accepted operation takes (R124). -/
def OpEngine.takenId (e : OpEngine) : Nat := firstFreeId e.table (e.table.length + 1) e.nextId

/-- The entry being sampled (R123). -/
def Operation.currentEntry (o : Operation) : Option OpEntry := o.entries[o.current]?

/-- Whether an operation needs a job (R128). -/
def Operation.needsJob (o : Operation) : Bool :=
  !o.outstanding &&
    match o.currentEntry with
    | some e => e.isPending
    | none => false

/-- The operation with an id (R123). -/
def OpEngine.find (id : Nat) (e : OpEngine) : Option Operation := e.table.find? fun o => o.opId == id

/-- The table with the operation of an id replaced. -/
def OpEngine.update (o : Operation) (e : OpEngine) : OpEngine :=
  { e with table := e.table.map fun p => if p.opId == o.opId then o else p }

/-- The table without the operation of an id (R123). -/
def OpEngine.remove (id : Nat) (e : OpEngine) : OpEngine := { e with table := e.table.filter fun p => p.opId != id }

/-- The end without result of an operation's job: job outstanding becomes NO (R130). -/
def OpEngine.jobEnded (id : Nat) (e : OpEngine) : OpEngine :=
  match e.find id with
  | some o => e.update { o with outstanding := false }
  | none => e

/-! ## Samples (R131, R132) -/

/-- Minimum and maximum after one more valid sample (R131). -/
def widen (raw : Nat) : Option (Nat × Nat) → Option (Nat × Nat)
  | none => some (raw, raw)
  | some (lo, hi) => some (min lo raw, max hi raw)

/-- The tallies of an entry after a sample (R131, R132). -/
def OpEntry.tally (r : Reading) (e : OpEntry) : OpEntry :=
  match r with
  | .value raw =>
    { e with taken := e.taken + 1, valid := e.valid + 1, sum := e.sum + raw, minMax := widen raw e.minMax }
  | .noSignal => { e with taken := e.taken + 1 }
  | .overrange => { e with taken := e.taken + 1 }

/-- A MEASURE entry after a sample (R131). -/
def OpEntry.measured (samples : Nat) (r : Reading) (e : OpEntry) : OpEntry :=
  let t := e.tally r
  if samples ≤ t.taken then { t with outcome := if t.valid = 0 then .noSignal else .complete } else t

/-- A CALIBRATE entry after a sample (R132). -/
def OpEntry.calibrated (samples : Nat) (r : Reading) (e : OpEntry) : OpEntry :=
  let t := e.tally r
  if r.isValid then (if samples ≤ t.taken then { t with outcome := .complete } else t)
  else { t with outcome := .failed }

/-- The entry of an operation after a sample, by kind. -/
def OpEntry.sampled (k : OpKind) (samples : Nat) (r : Reading) (e : OpEntry) : OpEntry :=
  match k with
  | .measure => e.measured samples r
  | .calibrate => e.calibrated samples r

/-! ## OP_DONE (R134) -/

/-- The first value of an OP_DONE entry: the new baseline of a COMPLETE calibration, or the mean of the valid samples. -/
def OpEntry.firstValue (k : OpKind) (samples : Nat) (e : OpEntry) : Option Nat :=
  match k with
  | .calibrate => if e.outcome = .complete then some (e.sum / samples) else none
  | .measure => if e.valid = 0 then none else some (e.sum / e.valid)

/-- An entry as the OP_DONE record carries it (R134, R187). -/
def OpEntry.done (k : OpKind) (samples : Nat) (e : OpEntry) : OpDoneEntry :=
  { channel := e.channel
    outcome := e.outcome
    validCount := match k with | .calibrate => 0 | .measure => e.valid
    first := e.firstValue k samples
    minMax := if e.valid = 0 then none else e.minMax }

/-- The OP_DONE record of an operation (R134). -/
def Operation.doneRecord (aborted : Bool) (o : Operation) : Record :=
  .opDone { opId := o.opId, kind := o.kind, aborted := aborted, entries := o.entries.map (OpEntry.done o.kind o.samples) }

/-- The index of the first PENDING entry among those from index `i` on. -/
def firstPending : Nat → List OpEntry → Option Nat
  | _, [] => none
  | i, e :: es => if e.isPending then some i else firstPending (i + 1) es

/-- The operation moves on from its finished current entry: to the next PENDING entry, or out of the table with an
OP_DONE record of overall outcome COMPLETE (R133). -/
def State.moveOn (o : Operation) (s : State) : State :=
  match firstPending (o.current + 1) (o.entries.drop (o.current + 1)) with
  | some i => { s with ops := s.ops.update { o with current := i } }
  | none => State.addRecord (o.doneRecord false) { s with ops := s.ops.remove o.opId }

/-- What a finished CALIBRATE entry does to its channel (R132, R97, R98). -/
def State.settleCalibration (samples : Nat) (e : OpEntry) (s : State) : State :=
  match e.outcome with
  | .complete => s.endCalibration e.channel (e.sum / samples)
  | .failed => s.failCalibration e.channel
  | .pending | .noSignal | .cancelled | .aborted => s

/-- The channel's change at the end of an entry, by kind (R131, R132). -/
def State.settleEntry (k : OpKind) (samples : Nat) (e : OpEntry) (s : State) : State :=
  match k with
  | .calibrate => s.settleCalibration samples e
  | .measure => s

/-- A sample counted against the current entry of an operation (R130 to R133). -/
def State.countSample (o : Operation) (e : OpEntry) (r : Reading) (s : State) : State :=
  let e' := e.sampled o.kind o.samples r
  let o' := { o with entries := o.entries.set o.current e', outstanding := false }
  if e'.isPending then { s with ops := s.ops.update o' }
  else State.moveOn o' (State.settleEntry o.kind o.samples e' { s with ops := s.ops.update o' })

/-- The engine takes the result of an operation job, if it names an operation whose job is outstanding and whose
current entry it is; otherwise the result is discarded (R130). -/
def State.takeSample (id entry : Nat) (r : Reading) (s : State) : State :=
  match s.ops.find id with
  | none => s
  | some o =>
    match o.currentEntry with
    | none => s
    | some e => if o.outstanding = true ∧ o.current = entry then s.countSample o e r else s

/-- The engine issues the job of an operation (R129). -/
def State.issueSample (o : Operation) (s : State) : State :=
  match o.currentEntry with
  | none => s
  | some e =>
    State.enterJob (.op o.opId o.current) e.channel
      { s with ops := s.ops.update { o with outstanding := true, started := true } }

/-! ## Cancelling and aborting (R16, R135) -/

/-- The entries with every PENDING one that a test names given an outcome; their tallies stay (R16, R135). -/
def closePending (named : OpEntry → Bool) (outcome : EntryOutcome) (entries : List OpEntry) : List OpEntry :=
  entries.map fun e => if e.isPending && named e then { e with outcome := outcome } else e

/-- A MEASURE operation after SET_CHANNEL has cancelled its PENDING entries of channel c: it moves on if the current
one was among them (R16, R137 step 2). -/
def State.cancelIn (c : ChanId) (o : Operation) (s : State) : State :=
  let o' := { o with entries := closePending (fun e => e.channel == c) .cancelled o.entries }
  let s' : State := { s with ops := s.ops.update o' }
  match o.currentEntry with
  | some e => if e.isPending && e.channel == c then s'.moveOn o' else s'
  | none => s'

/-- Every MEASURE operation of the table loses its PENDING entries of channel c and, if its current one is among them,
moves on (R16, R137 step 2). DESIGN CHOICE, unsafe (log 27): R16, R133 and R137 give no order among the operations; the
model takes them in acceptance order, so their OP_DONE records stand in that order. -/
def State.cancelEntries (c : ChanId) (s : State) : State :=
  (s.ops.table.filter fun o => o.kind == .measure).foldl (fun t o => t.cancelIn c o) s

end Sys2Proof.Machine
end

