-- ==== Sys2Proof/Machine/Ops.lean ====
section
/-! DEFINITION. The shared operations between the blocks: withdrawal of jobs, the two producers of the job queue, the
abandoning of a round, the wake from WATCH, and the completion of a job (R35, R36, R43, R54, R65, R69, R76, R128). -/

namespace Sys2Proof.Machine

/-! ## Ends without result and withdrawals (R37, R53, R54) -/

/-- The origin of a job is told that it ended without result (R37 step 3, R53). -/
def State.endWithout (j : Job) (s : State) : State :=
  match j.origin with
  | .scan entry round => s.endReport entry round
  | .op id _ => { s with ops := s.ops.jobEnded id }

/-- A running job is aborted if the selection names it: its resources are released and its origin is told (R37). -/
def State.abortUnit (named : Job → Bool) (u : UnitId) (s : State) : State :=
  match s.res.units[u] with
  | none => s
  | some r => if named r.job then State.endWithout r.job { s with res := s.res.release u r } else s

/-- Whether a selection names a job, waiting or running (R52). -/
def State.names (named : Job → Bool) (s : State) : Bool :=
  s.queue.any named || s.res.units.toList.any fun r => r.any fun r => named r.job

/-- A withdrawal: named waiting jobs are removed, oldest first; named running jobs are aborted, CU0 first; a grant pass
runs if any job was named (R54). The producers act on their slot notices in `State.drive`, which the caller runs when the
rules let them act (R43, R135 step 6, R137). -/
def State.withdraw (named : Job → Bool) (s : State) : State :=
  let removed := s.queue.filter named
  let s1 := removed.foldl (fun t j => t.endWithout j) { s with queue := s.queue.filter fun j => !named j }
  let s2 := [0, 1, 2, 3].foldl (fun t u => t.abortUnit named u) s1
  if s.names named then s2.grantPass else s2

/-! ## The producers of the job queue (R43, R69, R128) -/

/-- Whether the scan partition has a free slot (R43). -/
def State.scanSlotFree (s : State) : Bool := decide (s.scanWaiting < Config.scanSlots)

/-- The operation to which the engine gives a slot: the oldest that needs a job, if the partition has room (R128). -/
def State.nextOperation (s : State) : Option Operation :=
  if s.opWaiting < Config.opSlots then s.ops.table.find? Operation.needsJob else none

/-- One action of a producer. -/
inductive ProducerStep
  /-- The round in progress is over and completes (R71). -/
  | complete
  /-- The entry at the issue position is passed over (R69). -/
  | skip
  /-- The entry at the issue position is issued (R69). -/
  | scan (e : ScanEntry)
  /-- An operation's next job is issued (R128, R129). -/
  | op (o : Operation)
  /-- Both producers have a job to issue. -/
  | either (e : ScanEntry) (o : Operation)
  /-- Neither producer has anything to do. -/
  | rest
deriving DecidableEq, Repr

/-- The entry that the sequencer can issue now, if any: the one at the issue position, with a free slot (R69). -/
def State.nextScan (s : State) : Option ScanEntry :=
  match s.seq.atPosition with
  | none => none
  | some e => if !s.seq.dropped && s.scannable e.channel && s.scanSlotFree then some e else none

/-- Whether the sequencer's next action is to pass over an entry: one dropped at round begin, or one whose channel is
found OFF or CALIBRATING when the sequencer checks it. It checks on arriving at the entry (`arrived`) and when a slot is
free: an entry at which issue has paused is not checked again before a slot notice (R69). -/
def State.skipDue (arrived : Bool) (s : State) : Bool :=
  match s.seq.atPosition with
  | none => false
  | some e => s.seq.dropped || (!s.scannable e.channel && (arrived || s.scanSlotFree))

/-- The next action of the producers; `arrived` says whether the sequencer has just arrived at the entry of its issue
position. -/
def State.producerStep (arrived : Bool) (s : State) : ProducerStep :=
  if s.seq.roundOver then .complete
  else if s.skipDue arrived then .skip
  else
    match s.nextScan, s.nextOperation with
    | some e, some o => .either e o
    | some e, none => .scan e
    | none, some o => .op o
    | none, none => .rest

/-- One free choice of producer order has been taken (Config.sequencerFirst). -/
def State.countChoice (s : State) : State := { s with choices := s.choices + 1 }

/-- The producers' actions, one after another, until neither has anything to do. Where both could issue, the free value
Config.sequencerFirst chooses. `fuel` bounds the number of actions. -/
def State.driveFor : Nat → Bool → State → State
  | 0, _, s => s
  | fuel + 1, arrived, s =>
    match s.producerStep arrived with
    | .complete => State.driveFor fuel true s.completeRound
    | .skip => State.driveFor fuel true s.passEntry
    | .scan e => State.driveFor fuel true (s.issueEntry e)
    | .op o => State.driveFor fuel arrived (s.issueSample o)
    | .either e o =>
      if Config.sequencerFirst s.choices then State.driveFor fuel true (s.countChoice.issueEntry e)
      else State.driveFor fuel arrived (s.countChoice.issueSample o)
    | .rest => s

/-- More actions than the producers can have: a drive completes at most two rounds, passes each entry of a round once
and issues at most one job for each operation. -/
def State.driveFuel (s : State) : Nat := 3 * (s.seq.list.length + 2) + s.ops.table.length

/-- The producers act on every slot notice and on every round begun (R43, R69, R128). -/
def State.drive (s : State) : State := s.driveFor s.driveFuel false

/-- The engine alone acts: the partition is filled while the sequencer waits for a request to make all its changes
(R43, R128, R137 step 3). -/
def State.fillFor : Nat → State → State
  | 0, s => s
  | fuel + 1, s =>
    match s.nextOperation with
    | some o => State.fillFor fuel (s.issueSample o)
    | none => s

/-- The operation partition is filled (R128). -/
def State.fillPartition (s : State) : State := s.fillFor s.ops.table.length

/-! ## Abandoning a round, the wake (R65, R76) -/

/-- The round in progress is abandoned, if any, and every scan job withdrawn; the producers are told (R65). -/
def State.abandon (s : State) : State :=
  State.drive
    (State.withdraw Job.isScan
      { s with
        seq :=
          { s.seq with inRound := false, issuePos := 0, outstanding := [], eligible := [], heldStart := false } })

/-- A run of paced rounds begins: its mode, its first round and the round timer (R61, R63, R66, R68). -/
def State.startPaced (mode : SeqMode) (period : Nat) (s : State) : State :=
  let begun := (s.beginRun mode).roundBegin
  State.drive { begun with seq := { begun.seq with timer := some (Timer.start period) } }

/-- A wake (R76): nothing outside WATCH; in WATCH a SCAN WOKE record, the round abandoned, a RUNNING run begun. -/
def State.wake (reason : WakeReason) (s : State) : State :=
  if s.seq.mode = .watch then
    let abandoned := (s.addRecord (.scan (.woke reason) s.seq.round)).abandon
    abandoned.startPaced .running abandoned.seq.runPeriod
  else s

/-! ## Completion of a job (R35, R36) -/

/-- A scan result: the tracker, the wake if the transition is one of R74, and the end report (R36, R74). -/
def State.scanResult (c : ChanId) (entry round : Nat) (r : Reading) (s : State) : State :=
  let wakes := (s.verdict c r).wakes
  let tracked := s.trackResult c round r
  let woken := if wakes then tracked.wake .detect else tracked
  State.drive (woken.endReport entry round)

/-- The origin of a job takes its result whole (R35 step 4). -/
def State.deliver (j : Job) (r : Reading) (s : State) : State :=
  match j.origin with
  | .scan entry round => s.scanResult j.channel entry round r
  | .op id entry => State.drive (s.takeSample id entry r)

/-- The job running on unit u completes with a reading (R35). -/
def State.completeJob (u : UnitId) (run : Running) (r : Reading) (s : State) : State :=
  State.drive (State.grantPass (State.deliver run.job r { s with res := s.res.release u run }))

end Sys2Proof.Machine
end

