-- ==== Sys2Proof/Machine/DeliveryOps.lean ====
section
/-! DEFINITION. Notice delivery: resend passes, acknowledgement, HOLD, the end of a frame (R163 to R173). -/

namespace Sys2Proof.Machine

/-- The sequence number after a number, 255 followed by 1 (R166). -/
def seqAfter (n : Nat) : Nat := if n = 255 then 1 else n + 1

/-- A resend pass begins over the whole in-flight set; over an empty set it ends at once in OPEN (R170). -/
def Delivery.beginPass (d : Delivery) : Delivery :=
  { d with
    state := if d.inFlight.isEmpty then .opened else .resend
    passSet := d.inFlight
    ackTimer := none }

/-- The end of a resend pass: OPEN, and the ack timer started if notices are in flight (R170). -/
def Delivery.endPass (d : Delivery) : Delivery :=
  { d with
    state := .opened
    passSet := []
    ackTimer := if d.inFlight.isEmpty then none else some (Timer.start d.params.ackTimeout) }

/-- STALLED ends; in any other state nothing happens (R162, R171). -/
def Delivery.endStalled (d : Delivery) : Delivery :=
  if d.state = .stalled then Delivery.beginPass { d with retries := 0 } else d

/-- The notices younger than the one a sequence number names; none when it names no notice of the list (R168). -/
def youngerThan (n : Nat) : List Notice → Option (List Notice)
  | [] => none
  | x :: xs => if x.seq = n then some xs else youngerThan n xs

/-- Delivery after the removal of acknowledged notices has left `rest` in flight: retry count 0, and the removed notices
out of the pass set (R168). -/
def Delivery.removed (rest : List Notice) (d : Delivery) : Delivery :=
  { d with inFlight := rest, passSet := d.passSet.filter fun x => rest.contains x, retries := 0 }

/-- What a removal does by delivery state: in OPEN the ack timer restarts or stops; in RESEND the pass ends if its set
has emptied and no resend frame is on the line (R168, R170). -/
def Delivery.afterRemoval (resendOnLine : Bool) (d : Delivery) : Delivery :=
  match d.state with
  | .opened => { d with ackTimer := if d.inFlight.isEmpty then none else some (Timer.start d.params.ackTimeout) }
  | .resend => if d.passSet.isEmpty && !resendOnLine then d.endPass else d
  | .stalled => d
  | .hold => d

/-- An ACK frame naming a sequence number (R168). -/
def Delivery.acknowledge (resendOnLine : Bool) (n : Nat) (d : Delivery) : Delivery :=
  match youngerThan n d.inFlight with
  | some rest => (d.removed rest).afterRemoval resendOnLine
  | none => d

/-- Whether a resend frame is on the line (R170). -/
def Line.resendOnLine (l : Line) : Bool :=
  match l.tx with
  | some t => t.source == .resend
  | none => false

/-- Delivery at a frame boundary in RESEND: a pass whose set is empty ends (R170). -/
def Delivery.atBoundary (d : Delivery) : Delivery :=
  if d.state = .resend ∧ d.passSet.isEmpty = true then d.endPass else d

/-- Delivery when the last byte of a first transmission has been sent (R166). -/
def Delivery.firstEnded (d : Delivery) : Delivery :=
  if d.state = .opened ∧ d.ackTimer = none ∧ d.inFlight ≠ [] then
    { d with ackTimer := some (Timer.start d.params.ackTimeout) }
  else d

/-- Delivery when the last byte of a frame has been sent (R166, R170). -/
def Delivery.frameEnded (source : TxSource) (d : Delivery) : Delivery :=
  match source with
  | .first => d.firstEnded.atBoundary
  | .reply => d.atBoundary
  | .resend => d.atBoundary

/-- The expiry of the ack timer (R169). -/
def Delivery.expired (d : Delivery) : Delivery :=
  if d.retries < d.params.retryLimit then Delivery.beginPass { d with retries := d.retries + 1 }
  else { d with state := .stalled, ackTimer := none }

/-- Notices disabled: HOLD is entered from OPEN and RESEND (R173). -/
def Delivery.disable (d : Delivery) : Delivery :=
  match d.state with
  | .opened => { d with state := .hold, passSet := [], ackTimer := none }
  | .resend => { d with state := .hold, passSet := [], ackTimer := none }
  | .stalled => { d with state := .hold, passSet := [], ackTimer := none }
  | .hold => d

/-- Notices enabled: HOLD is left for a resend pass or for OPEN (R173). -/
def Delivery.enable (d : Delivery) : Delivery :=
  if d.state = .hold then Delivery.beginPass { d with retries := 0 } else d

/-- An accepted SET_LINK: the parameters replaced whole, then HOLD entered or left (R172, R173). -/
def Delivery.setParams (p : LinkParams) (d : Delivery) : Delivery :=
  let d' := { d with params := p }
  if p.notices then d'.enable else d'.disable

/-- The in-flight set discarded whole by FLUSH_NOTICES: retry count 0, and the ack timer stopped (R152, R167, R170). -/
def Delivery.discardInFlight (d : Delivery) : Delivery :=
  { d with inFlight := [], passSet := [], ackTimer := none, retries := 0 }

/-- A notice transmitted for the first time: it takes the next sequence number and joins the in-flight set at its young
end (R166). -/
def Delivery.send (body : NoticeBody) (d : Delivery) : Delivery :=
  { d with inFlight := d.inFlight ++ [{ seq := d.nextSeq, body := body }], nextSeq := seqAfter d.nextSeq }

/-- The notice that a first transmission would send and the notice queue after it: an OVERFLOW notice formed from a
non-empty tally, or else the head of the queue (R147, R148). DESIGN CHOICE, unsafe (log 30): a HELLO that waited in HOLD
while the tally filled goes out behind the OVERFLOW notice, as number 2 (R147, R163), where R150 and R173 say that it is
sent with number 1. -/
def NoticeQueue.offer (q : NoticeQueue) : Option (NoticeBody × NoticeQueue) :=
  if q.tally.isEmpty then
    match q.records with
    | [] => none
    | r :: rs => some (.record r, { q with records := rs })
  else some (.overflow q.tally, { q with tally := Tally.zero })

end Sys2Proof.Machine
end

