-- ==== Sys2Proof/Machine/Flags.lean ====
section
/-! DEFINITION. What the part shows at its pins and in its status picture, read from State: ATTN, TXD, the time that is
due, and the GET_STATUS picture (R153, R154, R156, R182). -/

namespace Sys2Proof.Machine

/-- ATTN is asserted exactly when the notice queue, the in-flight set or the tally is non-empty, and it is released while
RESET is held low (R154). -/
def State.attn (s : State) : Bool :=
  !s.resetHeld && (!s.notices.records.isEmpty || !s.delivery.inFlight.isEmpty || !s.notices.tally.isEmpty)

/-- What the part does at the pin ATTN: it drives it low while ATTN is asserted and leaves it high-impedance while ATTN is
released (R153). -/
def State.attnDrive (s : State) : OpenDrain := if s.attn then .low else .highImpedance

/-- The level of a pulled-up line, high being true: high unless an output on it drives it low (R153). -/
def pulledUp (outputs : List OpenDrain) : Bool := outputs.all fun d => d == .highImpedance

/-- The level of the ATTN line, which the part may share with other parts: their outputs are what the environment gives
(R153). -/
def State.attnLine (others : List OpenDrain) (s : State) : Bool := pulledUp (s.attnDrive :: others)

/-- The bytes of the frame on TXD; none while TXD idles high (R156, R163). -/
def State.txd (s : State) : Option (List Byte) := s.line.tx.map fun t => t.frame.bytes

/-- The levels of the frame on TXD, one for each bit-time: its characters, with no idle time between them (R156). -/
def State.txdLevels (s : State) : List Bool := ((s.txd.getD []).map characterLevels).flatten

/-- The level of TXD n bit-times after the frame on it began; high where no frame has a bit-time, so whenever TXD idles
and while RESET is held low (R156, R163). -/
def State.txdLevel (n : Nat) (s : State) : Bool := s.txdLevels.getD n true

/-- Whether the frame on the line is the OK reply to RESET_PART, at whose end the SOFT reset takes effect (R183). -/
def State.softResetDue (s : State) : Bool :=
  s.handler.resetting &&
    match s.line.tx with
    | some t => t.source == .reply && t.frame.kind == RequestKind.resetPart.code + 0x80#8
        && t.frame.payload.head? == some (codeByte Status.ok.code)
    | none => false

/-- The bits of one request: whether the handler can take a request now (R177). -/
def Handler.canTake (h : Handler) : Bool :=
  !h.resetting && decide (h.replies.length < Config.replyCapacity)

/-- Whether the transmitter stands at a frame boundary and TXD may be driven (R163, R156). -/
def State.txFree (s : State) : Bool := s.line.tx.isNone && !s.resetHeld

/-- Whether delivery may send a new notice now: OPEN with the in-flight count below the window (R163 case 3, R165). -/
def Delivery.mayFirst (d : Delivery) : Bool :=
  d.state == .opened && decide (d.inFlight.length < d.params.window)

/-- The status picture of the GET_STATUS reply, after its status byte (R182, R187). -/
def State.statusBytes (s : State) : List Byte :=
  [codeByte s.seq.mode.code] ++ bytesLE 2 s.seq.round ++ [codeByte s.seq.inRound.toNat] ++ bytesLE 2 s.seq.overruns
  ++ [codeByte s.scanWaiting, codeByte s.opWaiting, codeByte s.res.unitsBusy, codeByte s.res.cellsHeld,
    codeByte s.notices.records.length, codeByte s.delivery.inFlight.length]
  ++ bytesLE 2 s.notices.tally.results ++ bytesLE 2 s.notices.tally.states ++ bytesLE 2 s.notices.tally.others
  ++ [codeByte s.delivery.state.code, codeByte s.delivery.retries]
  ++ bytesLE 2 s.line.discards
  ++ [flagsByte [s.line.lastDiscard.isSome], codeByte ((s.line.lastDiscard.map DiscardCause.code).getD 0),
    codeByte s.handler.lastReset.code, codeByte s.ops.table.length]
  ++ (s.ops.table.map Operation.statusBytes).flatten

/-- Whether a timer's period has run out (R66, R167). -/
def Timer.isDue (t : Timer) : Bool := decide (t.period * Config.refclkPerMs ≤ t.elapsed)

/-- Whether a time-driven step of a unit is due: its gate closes or its span has reached the timeout (R29, R32). -/
def Running.isDue (r : Running) : Bool :=
  if r.gateOpen then decide (r.job.snapshot.gateLength ≤ r.ticks) else !r.inSpan

/-- Whether the moment at which a unit's gate closes or its span reaches the timeout has passed. At that very moment an
edge may still be taken, before the expiry (R28, R29, R32). DESIGN CHOICE (log 3): so that no count reaches 65535, as R30
and R32 state, an edge at tick 65535 comes too late. -/
def Running.isPast (r : Running) : Bool :=
  let tick := r.job.snapshot.tickPeriod
  if r.gateOpen then decide (r.job.snapshot.gateLength * tick < r.tickTime)
  else decide (r.job.snapshot.timeout * tick < r.spanTime) || r.phase == .count && decide (Config.tickMax ≤ r.ticks)

/-- Whether any time-driven step is due, so that its command comes before more time passes. -/
def State.timeDue (s : State) : Bool :=
  s.seq.timer.any Timer.isDue || s.delivery.ackTimer.any Timer.isDue
    || s.res.units.toList.any fun r => r.any Running.isDue

end Sys2Proof.Machine
end

