-- ==== Sys2Proof/Machine/Operands.lean ====
section
/-! DEFINITION. The operands of requests: payload lengths, unused bits, and the fields of each payload with the checks
that the owning block makes of them, in its order (R13, R14, R58, R62, R125, R135, R151, R172, R179, R186). -/

namespace Sys2Proof.Machine

/-- The byte at an offset of a payload, as a number. -/
def byteAt (payload : List Byte) (offset : Nat) : Nat := (payload.getD offset 0).toNat

/-! ## Generic checks (R179, R186) -/

/-- Whether a payload has the length that the layout of its kind gives (R186). -/
def RequestKind.lengthOk (k : RequestKind) (payload : List Byte) : Bool :=
  match k with
  | .ping => decide (payload.length ≤ 16)
  | .getStatus | .getScan | .scanStop | .resetPart => decide (payload.length = 0)
  | .setLink => decide (payload.length = 5)
  | .setChannel => decide (payload.length = 44)
  | .getChannel | .abortOp | .flushNotices => decide (payload.length = 1)
  | .setScan => decide (1 ≤ payload.length) && decide (payload.length = 1 + 3 * byteAt payload 0)
  | .scanStart => decide (payload.length = 3)
  | .calibrate | .measure => decide (2 ≤ payload.length) && decide (payload.length = 2 + byteAt payload 1)

/-- The offset of the first flags byte of SET_SCAN entries, from entry `i` on, with an unassigned bit set (R179, R186). -/
def unusedScanBits (payload : List Byte) : Nat → Nat → Option Nat
  | 0, _ => none
  | n + 1, i =>
    if 1 < byteAt payload (1 + 3 * i + 2) then some (1 + 3 * i + 2) else unusedScanBits payload n (i + 1)

/-- The offset of the first payload byte with an unassigned bit set. Only SET_SCAN has unassigned bits (R186). -/
def RequestKind.unusedBits (k : RequestKind) (payload : List Byte) : Option Nat :=
  match k with
  | .setScan => unusedScanBits payload (byteAt payload 0) 0
  | .ping | .getStatus | .setLink | .setChannel | .getChannel | .getScan | .scanStart | .scanStop | .calibrate
  | .measure | .abortOp | .flushNotices | .resetPart => none

/-- The generic checks of a request of a defined kind after the kind check (R179). -/
def RequestKind.generic (k : RequestKind) (payload : List Byte) : Option Refused :=
  if k.lengthOk payload then
    match k.unusedBits payload with
    | some offset => some (Refused.badValue offset)
    | none => none
  else some { status := .badLength, detail := noOffset }

/-! ## Helpers -/

/-- A number as a number below `n`, 0 when it is not. -/
def finOr (n : Nat) [NeZero n] (k : Nat) : Fin n := if h : k < n then ⟨k, h⟩ else 0

/-- The offset of the first check of a list that fails (R13, R14, R172). -/
def firstFailing : List (Nat × Bool) → Option Nat
  | [] => none
  | (offset, ok) :: rest => if ok then firstFailing rest else some offset

/-- Whether a value lies in a range. -/
def inRange (lo hi v : Nat) : Bool := decide (lo ≤ v) && decide (v ≤ hi)

/-- The offset of a payload byte that names a channel above 23 (R1, R19). -/
def channelAt (payload : List Byte) (offset : Nat) : ChanId := finOr 24 (byteAt payload offset)

/-! ## SET_LINK (R172) -/

def linkChecks (p : List Byte) : List (Nat × Bool) :=
  [(0, inRange 1 4 (byteAt p 0)), (1, inRange 5 2000 (fieldAt p 1 2)), (3, inRange 0 7 (byteAt p 3)),
    (4, inRange 0 1 (byteAt p 4))]

def linkParams (p : List Byte) : LinkParams :=
  { window := byteAt p 0, ackTimeout := fieldAt p 1 2, retryLimit := byteAt p 3, notices := byteAt p 4 == 1 }

/-! ## SET_CHANNEL (R13, R14, R186) -/

def sourceOf : Nat → Source
  | 0 => .oscCap | 1 => .oscRes | _ => .ext

def modeOf : Nat → Mode
  | 0 => .gated | 1 => .period | _ => .interval

def edgePairOf : Nat → EdgePair
  | 0 => .riseRise | 1 => .fallFall | 2 => .riseFall | _ => .fallRise

def detectorOf : Nat → Detector
  | 0 => .plain | 1 => .delta | _ => .window

def directionOf : Nat → Direction
  | 0 => .falling | _ => .rising

def resultModeOf : Nat → ResultMode
  | 0 => .never | 1 => .every | _ => .change

/-- The group a group byte names (R3). -/
def groupOf : Nat → Option LockId
  | 0 => none
  | n + 1 => some (finOr 4 n)

/-- The range checks of SET_CHANNEL, in payload order (R13 step 3). Fields that use every value of their bytes are left
out: settle cycles, off threshold, low limit, high limit, hysteresis, drift step, hold limit. -/
def rangeChecks (p : List Byte) : List (Nat × Bool) :=
  [(1, inRange 0 1 (byteAt p 1)), (2, inRange 0 23 (byteAt p 2)), (3, inRange 0 2 (byteAt p 3)),
    (4, inRange 0 2 (byteAt p 4)), (5, inRange 0 8 (byteAt p 5)), (6, inRange 1 65535 (fieldAt p 6 2)),
    (8, inRange 1 4096 (fieldAt p 8 2)), (10, inRange 0 3 (byteAt p 10)), (11, inRange 1 65535 (fieldAt p 11 2)),
    (14, inRange 0 3 (byteAt p 14)), (15, inRange 0 2 (byteAt p 15)), (16, inRange 0 1 (byteAt p 16)),
    (17, inRange 1 65535 (fieldAt p 17 2)), (30, inRange 1 15 (byteAt p 30)), (31, inRange 1 15 (byteAt p 31)),
    (32, inRange 1 63 (byteAt p 32)), (34, inRange 1 255 (byteAt p 34)), (35, inRange 1 15 (byteAt p 35)),
    (38, inRange 1 15 (byteAt p 38)), (39, inRange 0 4 (byteAt p 39)), (40, inRange 0 1 (byteAt p 40)),
    (41, inRange 0 2 (byteAt p 41)), (42, inRange 1 65535 (fieldAt p 42 2))]

/-- The configuration that a SET_CHANNEL payload carries (R186). -/
def configOf (p : List Byte) : ChannelConfig :=
  { enable := byteAt p 1 == 1
    measuring :=
      { pin := finOr 24 (byteAt p 2), source := sourceOf (byteAt p 3), mode := modeOf (byteAt p 4)
        prescale := byteAt p 5, gateLength := fieldAt p 6 2, cycleCount := fieldAt p 8 2
        edgePair := edgePairOf (byteAt p 10), timeout := fieldAt p 11 2, settleCycles := byteAt p 13
        driveLevel := finOr 4 (byteAt p 14) }
    detector := detectorOf (byteAt p 15)
    delta :=
      { direction := directionOf (byteAt p 16), onThreshold := fieldAt p 17 2, offThreshold := fieldAt p 19 2
        settleCount := byteAt p 32, driftStep := byteAt p 33, driftInterval := byteAt p 34
        reverseLimit := byteAt p 35, holdLimit := fieldAt p 36 2, group := groupOf (byteAt p 39) }
    window := { lowLimit := fieldAt p 21 3, highLimit := fieldAt p 24 3, hysteresis := fieldAt p 27 3 }
    debounceOn := byteAt p 30, debounceOff := byteAt p 31, faultLimit := byteAt p 38
    events := byteAt p 40 == 1, resultMode := resultModeOf (byteAt p 41), changeStep := fieldAt p 42 2 }

/-- The consistency checks of SET_CHANNEL, in their order (R14). -/
def consistencyChecks (c : ChannelConfig) : List (Nat × Bool) :=
  [(4, !(c.measuring.mode == .interval && c.measuring.source.isOsc)),
    (19, decide (c.delta.offThreshold < c.delta.onThreshold)),
    (21, decide (c.window.lowLimit ≤ c.window.highLimit)),
    (27, decide (c.window.hysteresis ≤ c.window.highLimit - c.window.lowLimit)),
    (39, c.delta.group.isNone || c.detector == .delta)]

/-- The initial state of a channel under a configuration (R8). -/
def ChannelConfig.initialState (c : ChannelConfig) : ChanState :=
  if c.enable then
    match c.detector with
    | .plain => .live
    | .delta => .settling
    | .window => .unknown
  else .off

/-- The checks of SET_CHANNEL: the refusal, if any (R13). -/
def State.refuseSetChannel (p : List Byte) (s : State) : Option Refused :=
  if 23 < byteAt p 0 then some (Refused.badValue 0)
  else if s.channels[channelAt p 0].live.state = .calibrating then some Refused.wrongState
  else
    match firstFailing (rangeChecks p) with
    | some offset => some (Refused.badValue offset)
    | none => (firstFailing (consistencyChecks (configOf p))).map Refused.badValue

/-! ## SET_SCAN (R58, R186) -/

/-- The offset of the first field of the entries, from entry `i` on, that lies outside its range (R58 step 3). -/
def badScanField (p : List Byte) : Nat → Nat → Option Nat
  | 0, _ => none
  | n + 1, i =>
    if 23 < byteAt p (1 + 3 * i) then some (1 + 3 * i)
    else if inRange 1 16 (byteAt p (2 + 3 * i)) then badScanField p n (i + 1)
    else some (2 + 3 * i)

/-- The entries of a SET_SCAN payload, from entry `i` on. -/
def scanEntries (p : List Byte) : Nat → Nat → List ScanEntry
  | 0, _ => []
  | n + 1, i =>
    { channel := channelAt p (1 + 3 * i), divider := byteAt p (2 + 3 * i), watch := byteAt p (3 + 3 * i) % 2 == 1 }
      :: scanEntries p n (i + 1)

/-- The checks of SET_SCAN (R58). -/
def State.refuseSetScan (p : List Byte) (s : State) : Option Refused :=
  if s.seq.mode ≠ .stopped then some Refused.wrongState
  else if 32 < byteAt p 0 then some (Refused.badValue 0)
  else (badScanField p (byteAt p 0) 0).map Refused.badValue

/-! ## SCAN_START (R62, R186) -/

/-- The mode that a SCAN_START names, if it names one of the three (R62). -/
def startMode : Nat → Option SeqMode
  | 1 => some .running
  | 2 => some .single
  | 3 => some .watch
  | _ => none

/-- Whether the period of a SCAN_START fits its mode (R62 checks 2 to 4). -/
def periodOk (m : SeqMode) (period : Nat) : Bool :=
  match m with
  | .stopped => false
  | .running => decide (1 ≤ period)
  | .watch => decide (10 ≤ period)
  | .single => decide (period = 0)

/-- The checks of SCAN_START (R62). -/
def State.refuseScanStart (p : List Byte) (s : State) : Option Refused :=
  match startMode (byteAt p 0) with
  | none => some (Refused.badValue 0)
  | some m =>
    if !periodOk m (fieldAt p 1 2) then some (Refused.badValue 1)
    else if s.seq.list.isEmpty then some Refused.wrongState
    else if m = .watch ∧ ¬ (s.seq.list.any ScanEntry.watch = true) then some Refused.wrongState
    else if m = .watch ∧ s.ops.table ≠ [] then some Refused.wrongState
    else none

/-! ## CALIBRATE and MEASURE (R125, R186) -/

/-- The largest number of samples per channel of a kind (R123). -/
def OpKind.maxSamples : OpKind → Nat
  | .calibrate => 64
  | .measure => 16

/-- The channel bytes of an operation request. -/
def opChannelBytes (p : List Byte) : List Nat := (p.drop 2).map BitVec.toNat

/-- The offset of the first channel number above 23 or equal to one earlier in the list, in one walk from an offset
(R125 checks 3 and 4). -/
def badOpChannel : List Nat → List Nat → Nat → Option Nat
  | _, [], _ => none
  | earlier, n :: ns, offset =>
    if 23 < n then some offset
    else if earlier.contains n then some offset
    else badOpChannel (earlier ++ [n]) ns (offset + 1)

/-- Whether a channel's state admits an operation of a kind (R125 check 5). -/
def State.admitsOp (k : OpKind) (c : ChanId) (s : State) : Bool :=
  match k with
  | .measure => s.channels[c].live.state != .off
  | .calibrate =>
    s.channels[c].config.detector == .delta && s.channels[c].live.state != .off
      && s.channels[c].live.state != .calibrating

/-- The channels an operation request lists, in sampling order. -/
def opChannels (p : List Byte) : List ChanId := (opChannelBytes p).map fun n => finOr 24 n

/-- The offset of the first channel, from an offset on, whose state does not admit the operation (R125 check 5). -/
def State.wrongOpChannel (k : OpKind) (s : State) : List ChanId → Nat → Option Nat
  | [], _ => none
  | c :: cs, offset => if s.admitsOp k c then State.wrongOpChannel k s cs (offset + 1) else some offset

/-- The checks of CALIBRATE and MEASURE (R125). -/
def State.refuseOperation (k : OpKind) (p : List Byte) (s : State) : Option Refused :=
  if !inRange 1 k.maxSamples (byteAt p 0) then some (Refused.badValue 0)
  else if !inRange 1 8 (byteAt p 1) then some (Refused.badValue 1)
  else
    match badOpChannel [] (opChannelBytes p) 2 with
    | some offset => some (Refused.badValue offset)
    | none =>
      match s.wrongOpChannel k (opChannels p) 2 with
      | some offset => some { status := .wrongState, detail := codeByte offset }
      | none =>
        if Config.opCapacity ≤ s.ops.table.length then some { status := .noResource, detail := noOffset } else none

/-! ## FLUSH_NOTICES (R151, R188) -/

/-- The scopes of FLUSH_NOTICES (R151). -/
inductive FlushScope | queue | inFlight | both
deriving DecidableEq, Repr

def flushScope : Nat → Option FlushScope
  | 1 => some .queue
  | 2 => some .inFlight
  | 3 => some .both
  | _ => none

end Sys2Proof.Machine
end

