-- ==== Sys2Proof/Machine/Resets.lean ====
section
/-! DEFINITION. The resets and RESET held low (R39, R55, R138, R150, R154, R163, R164, R172, R183, R184). -/

namespace Sys2Proof.Machine

/-- The outcome of a step of this machine. -/
abbrev Outcome := Host.Outcome State Fault Refusal

/-- Every block at its value after a reset of a kind, with the line speed SPD gives, the link parameters in force and
the level of RESET after it (R20, R39, R55, R60, R100, R138, R150, R164, R184). -/
def State.afterReset (k : ResetKind) (speed : LineSpeed) (p : LinkParams) (held : Bool) (s : State) : State :=
  { s with
    res := Resources.reset
    queue := []
    seq := Sequencer.reset
    channels := resetChannels
    locks := Vector.replicate 4 none
    ops := OpEngine.reset
    notices := NoticeQueue.reset k speed
    line := Line.reset speed
    delivery := Delivery.reset p
    handler := Handler.reset k
    resetHeld := held }

/-- POWER_RESET: every block takes its reset values and the link parameters their defaults. The RESET pin keeps its
level, which the supply does not change (R150, R154, R172). -/
def execPowerReset (speed : LineSpeed) (s : State) : Outcome :=
  .next (s.afterReset .power speed LinkParams.default s.resetHeld)

/-- PIN_RESET: RESET is released (R150, R163, R172). -/
def execPinReset (speed : LineSpeed) (s : State) : Outcome :=
  .next (s.afterReset .pin speed LinkParams.default false)

/-- SOFT_RESET: the last byte of the RESET_PART reply has been sent. The link parameters are kept (R172, R183). Not taken
unless that reply is on the line. -/
def execSoftReset (speed : LineSpeed) (s : State) : Outcome :=
  if s.softResetDue then .next (s.afterReset .soft speed s.delivery.params s.resetHeld) else .next s

/-- RESET_HELD_LOW: RESET is driven low. A frame on TXD is cut off; until the release RXD is not read, nothing is sent and
ATTN is released (R154, R156, R163). -/
def execResetHeldLow (s : State) : Outcome :=
  .next { s with line := { s.line with tx := none }, resetHeld := true }

end Sys2Proof.Machine
end

