-- ==== Sys2Proof/Machine/Receiving.lean ====
section
/-! DEFINITION. The receiver: what a byte on RXD is, the discards, the dispatch of valid frames, and the commands of the
receiver (R158 to R162, R175). -/

namespace Sys2Proof.Machine

/-- What the byte received next does at the receiver (R159, R162). -/
inductive ByteEvent
  /-- It advances the receiver. -/
  | advance (r : Receiver)
  /-- It discards the frame with cause LENGTH: a length byte outside 2 to 130, or the end of an ACK frame whose length is
  not 2. -/
  | badLength
  /-- It ends a frame whose CRC does not match. -/
  | badCrc
  /-- It ends a valid ACK frame of length 2. -/
  | ack (tag : Byte)
  /-- It ends a valid frame of a request kind. -/
  | request (f : Frame)
  /-- It ends a valid frame of a part-to-host kind. -/
  | foreign
deriving DecidableEq, Repr

/-- The dispatch of a valid frame by its kind (R162). -/
def dispatchFrame (len : Nat) (f : Frame) : ByteEvent :=
  if f.kind = ackKind then (if len = 2 then .ack f.tag else .badLength)
  else if partKind f.kind then .foreign
  else .request f

/-- The end of a frame: its CRC is checked over the length byte and the body (R158, R159). -/
def endFrame (len : Nat) (got : List Byte) (low high : Byte) : ByteEvent :=
  if [low, high] = crcBytes (crcOf (codeByte len :: got)) then dispatchFrame len (frameOfBody got) else .badCrc

/-- What a byte does in each receiver state (R159). -/
def Receiver.take (r : Receiver) (b : Byte) : ByteEvent :=
  match r with
  | .hunt => .advance (if b = 0xE7#8 then .length else .hunt)
  | .length => if inRange 2 130 b.toNat then .advance (.body b.toNat []) else .badLength
  | .body len got =>
    if len ≤ got.length + 1 then .advance (.crc len (got ++ [b]) none) else .advance (.body len (got ++ [b]))
  | .crc len got none => .advance (.crc len got (some b))
  | .crc len got (some low) => endFrame len got low b

/-- A discarded frame: the count, the cause, and the receiver back in HUNT (R159, R161). -/
def Line.discard (cause : DiscardCause) (l : Line) : Line :=
  { l with receiver := .hunt, discards := bump l.discards, lastDiscard := some cause }

/-- A frame discarded with a cause. -/
def State.discardFrame (cause : DiscardCause) (s : State) : State := { s with line := s.line.discard cause }

/-- The receiver in a new state. -/
def State.setReceiver (r : Receiver) (s : State) : State := { s with line := { s.line with receiver := r } }

/-- What a byte on RXD is now; none while RESET is held low, when RXD is not read (R156, R159). -/
def State.byteEvent (b : Byte) (s : State) : Option ByteEvent :=
  if s.resetHeld then none else some (s.line.receiver.take b)

/-- STALLED ends (R162, R171, R177). -/
def State.endStalled (s : State) : State := { s with delivery := s.delivery.endStalled }

/-- A valid request frame is offered to the request queue (R162, R175). -/
def State.offerRequest (f : Frame) (s : State) : State :=
  if s.handler.requests.length < Config.requestCapacity then
    { s with handler := { s.handler with requests := s.handler.requests ++ [f] } }
  else s.discardFrame .queueFull

/-- A valid frame of a request kind arrives: the sequencer wakes from WATCH, STALLED ends, the frame is offered (R162). -/
def State.arriveRequest (f : Frame) (s : State) : State :=
  State.offerRequest f (State.endStalled (State.wake .host (s.setReceiver .hunt)))

/-- BYTE_RECEIVED: the byte advances the receiver (R159). Not taken where the byte ends or discards a frame. -/
def execByteReceived (b : Byte) (s : State) : Outcome :=
  match s.byteEvent b with
  | some (.advance r) => .next (s.setReceiver r)
  | _ => .next s

/-- LENGTH_DISCARD (R159, R161, R162). Not taken where the byte does something else. -/
def execLengthDiscard (b : Byte) (s : State) : Outcome :=
  match s.byteEvent b with
  | some .badLength => .next (s.discardFrame .length)
  | _ => .next s

/-- CRC_MISMATCH (R159, R161). Not taken where the byte does something else. -/
def execCrcMismatch (b : Byte) (s : State) : Outcome :=
  match s.byteEvent b with
  | some .badCrc => .next (s.discardFrame .crc)
  | _ => .next s

/-- FOREIGN_FRAME (R161, R162). Not taken where the byte does something else. -/
def execForeignFrame (b : Byte) (s : State) : Outcome :=
  match s.byteEvent b with
  | some .foreign => .next (s.discardFrame .foreign)
  | _ => .next s

/-- ACK: the byte ends a valid ACK frame, which delivery takes (R162, R168). Not taken where the byte does something
else. -/
def execAck (b : Byte) (s : State) : Outcome :=
  match s.byteEvent b with
  | some (.ack tag) =>
    .next { s.setReceiver .hunt with delivery := s.delivery.acknowledge s.line.resendOnLine tag.toNat }
  | _ => .next s

/-- REQUEST_FRAME_ARRIVAL: the byte ends a valid request frame (R162). Not taken where the byte does something else. -/
def execRequestFrameArrival (b : Byte) (s : State) : Outcome :=
  match s.byteEvent b with
  | some (.request f) => .next (s.arriveRequest f)
  | _ => .next s

/-- Whether the receiver is within a frame (R160). -/
def Receiver.inFrame : Receiver → Bool
  | .hunt => false
  | .length => true
  | .body _ _ => true
  | .crc _ _ _ => true

/-- GAP_TIMEOUT: a gap of 16 byte-times within a frame (R160). Not taken in HUNT, nor while RXD is not read. -/
def execGapTimeout (s : State) : Outcome :=
  if s.line.receiver.inFrame && !s.resetHeld then .next (s.discardFrame .gap) else .next s

end Sys2Proof.Machine
end

