-- ==== Sys2Proof/Machine/Sending.lean ====
section
/-! DEFINITION. The transmitter's commands and the ack timer (R163 to R170). -/

namespace Sys2Proof.Machine

/-- The transmitter begins to send a frame (R163). -/
def State.transmit (source : TxSource) (f : Frame) (s : State) : State :=
  { s with line := { s.line with tx := some { source := source, frame := f } } }

/-- REPLY_TRANSMISSION: at a frame boundary the head of the reply queue goes onto the line and leaves the queue (R163,
R176). Not taken without a reply or away from a boundary. -/
def execReplyTransmission (s : State) : Outcome :=
  match s.handler.replies with
  | [] => .next s
  | f :: rest =>
    if s.txFree then .next (State.transmit .reply f { s with handler := { s.handler with replies := rest } })
    else .next s

/-- FIRST_TRANSMISSION: at a frame boundary with no reply waiting, in OPEN below the window, a new notice takes the next
sequence number, enters the in-flight set and goes onto the line (R147, R148, R163, R166). Not taken otherwise. -/
def execFirstTransmission (s : State) : Outcome :=
  match s.notices.offer with
  | none => .next s
  | some (body, q) =>
    if s.txFree && s.handler.replies.isEmpty && s.delivery.mayFirst then
      .next
        (State.transmit .first (Notice.frame { seq := s.delivery.nextSeq, body := body })
          { s with notices := q, delivery := s.delivery.send body })
    else .next s

/-- NOTICE_RESEND: at a frame boundary with no reply waiting, in RESEND, the oldest notice of the pass set goes onto the
line again and leaves the pass set (R163, R170). Not taken otherwise. -/
def execNoticeResend (s : State) : Outcome :=
  match s.delivery.passSet with
  | [] => .next s
  | n :: rest =>
    if s.txFree && s.handler.replies.isEmpty && s.delivery.state == .resend then
      .next (State.transmit .resend n.frame { s with delivery := { s.delivery with passSet := rest } })
    else .next s

/-- FRAME_END: the last byte of a frame has been sent (R163, R166, R170). Not taken with no frame on the line, nor for the
RESET_PART reply, at whose end the SOFT reset takes effect instead (R183). -/
def execFrameEnd (s : State) : Outcome :=
  match s.line.tx with
  | none => .next s
  | some t =>
    if s.softResetDue then .next s
    else .next { s with line := { s.line with tx := none }, delivery := s.delivery.frameEnded t.source }

/-- ACK_TIMER_EXPIRY (R169). Not taken unless the ack timer runs, which it does in OPEN alone (R167). -/
def execAckTimerExpiry (s : State) : Outcome :=
  if s.delivery.state = .opened ∧ s.delivery.ackTimer.isSome then .next { s with delivery := s.delivery.expired }
  else .next s

end Sys2Proof.Machine
end

