-- ==== Sys2Proof/Machine/Counting.lean ====
section
/-! DEFINITION. The commands of the counting units and the round timer (R26 to R32, R35, R67). -/

namespace Sys2Proof.Machine

/-- The kind of the arming edge of an edge pair (R31). -/
def EdgePair.arming : EdgePair → Edge
  | .riseRise | .riseFall => .rising
  | .fallFall | .fallRise => .falling

/-- The kind of the final edge of an edge pair (R31). -/
def EdgePair.final : EdgePair → Edge
  | .riseRise | .fallRise => .rising
  | .fallFall | .riseFall => .falling

/-- A unit's running job replaced. -/
def State.setUnit (u : UnitId) (r : Running) (s : State) : State :=
  { s with res := { s.res with units := s.res.units.set u (some r) } }

/-- Whether a job stands in a phase of a mode. -/
def Running.isIn (phase : Phase) (mode : Mode) (r : Running) : Bool :=
  r.phase == phase && r.job.snapshot.mode == mode

/-- The job that runs on unit u and takes an edge after `dt` picoseconds, its counters brought up to date: none when
the unit is FREE, when the test fails, or when the end of its gate or timeout has passed by then (R28 to R32). -/
def State.takesEdge (u : UnitId) (dt : Nat) (test : Running → Bool) (s : State) : Option Running :=
  match s.res.units[u] with
  | none => none
  | some r => if test r && !(r.pass dt).isPast then some (r.pass dt) else none

/-- The end of SETTLE: GATED opens its gate, PERIOD enters ARM with its own span (R28 to R30). DESIGN CHOICE, unsafe
(log 28): the opening of the gate clears the span counter, which the spec says only is not read in COUNT. -/
def Running.leaveSettle (r : Running) : Running :=
  { r with phase := if r.job.snapshot.mode = .gated then .count else .arm, edges := 0, tickTime := 0, spanTime := 0 }

/-- An edge of the cell in SETTLE (R28). -/
def Running.settle (r : Running) : Running :=
  if r.job.snapshot.settleCycles ≤ r.edges + 1 then r.leaveSettle else { r with edges := r.edges + 1 }

/-- The arming edge: COUNT is entered with the tick counter and the edge counter at 0; the span goes on (R30, R31). -/
def Running.armed (r : Running) : Running := { r with phase := .count, edges := 0, tickTime := 0 }

/-- SETTLE_EDGE (R28). Not taken unless unit u is in SETTLE within its timeout. -/
def execSettleEdge (u : UnitId) (dt : Nat) (s : State) : Outcome :=
  match s.takesEdge u dt (fun r => r.phase == .settle) with
  | some r => .next (s.setUnit u r.settle)
  | none => .next s

/-- GATE_EDGE: the edge counter stops at 16,777,216 (R29). Not taken unless the gate of unit u is open. -/
def execGateEdge (u : UnitId) (dt : Nat) (s : State) : Outcome :=
  match s.takesEdge u dt Running.gateOpen with
  | some r => .next (s.setUnit u { r with edges := min (r.edges + 1) Config.edgeMax })
  | none => .next s

/-- The reading of a gate at its close (R29). -/
def gateReading (edges : Nat) : Reading :=
  if edges = 0 then .noSignal else if edges ≤ Config.rawMax then .value edges else .overrange

/-- GATE_CLOSE: the tick counter reaches the gate length and the job completes (R29, R35). Not taken unless the gate of
unit u is open. -/
def execGateClose (u : UnitId) (s : State) : Outcome :=
  match s.res.units[u] with
  | some r => if r.gateOpen then .next (s.completeJob u r (gateReading r.edges)) else .next s
  | none => .next s

/-- ARMING_EDGE: the first rising edge in ARM of a PERIOD job (R30). Not taken otherwise. -/
def execArmingEdge (u : UnitId) (dt : Nat) (s : State) : Outcome :=
  match s.takesEdge u dt (Running.isIn .arm .period) with
  | some r => .next (s.setUnit u r.armed)
  | none => .next s

/-- PERIOD_EDGE: at the cycle count the job completes with the tick counter as raw value (R30, R35). Not taken unless
unit u counts a PERIOD job within its timeout. -/
def execPeriodEdge (u : UnitId) (dt : Nat) (s : State) : Outcome :=
  match s.takesEdge u dt (Running.isIn .count .period) with
  | some r =>
    if r.job.snapshot.cycleCount ≤ r.edges + 1 then .next (s.completeJob u r (.value r.ticks))
    else .next (s.setUnit u { r with edges := r.edges + 1 })
  | none => .next s

/-- INTERVAL_ARMING_EDGE: the first edge of the arming kind starts COUNT; an edge of the other kind is ignored (R31). Not
taken unless unit u is in ARM of an INTERVAL job within its timeout. -/
def execIntervalArmingEdge (u : UnitId) (e : Edge) (dt : Nat) (s : State) : Outcome :=
  match s.takesEdge u dt (Running.isIn .arm .interval) with
  | some r => .next (s.setUnit u (if e = r.job.snapshot.edgePair.arming then r.armed else r))
  | none => .next s

/-- INTERVAL_FINAL_EDGE: the first later edge of the final kind completes the job with the tick counter as raw value; an
edge of the other kind is ignored (R31, R35). Not taken unless unit u counts an INTERVAL job within its timeout. -/
def execIntervalFinalEdge (u : UnitId) (e : Edge) (dt : Nat) (s : State) : Outcome :=
  match s.takesEdge u dt (Running.isIn .count .interval) with
  | some r =>
    if e = r.job.snapshot.edgePair.final then .next (s.completeJob u r (.value r.ticks)) else .next (s.setUnit u r)
  | none => .next s

/-- SPAN_TIMEOUT: the span counter reaches the timeout and the job completes NO_SIGNAL (R28, R32, R35). Not taken at a
FREE unit nor over an open gate, where the timeout is not read. -/
def execSpanTimeout (u : UnitId) (s : State) : Outcome :=
  match s.res.units[u] with
  | some r => if r.gateOpen then .next s else .next (s.completeJob u r .noSignal)
  | none => .next s

/-- An overrun (R67): counted, held-start set, and the first of a run reported. -/
def State.overrun (s : State) : State :=
  let counted : State :=
    { s with seq := { s.seq with overruns := bump s.seq.overruns, heldStart := true, overrunReported := true } }
  if s.seq.overrunReported then counted else counted.addRecord (.scan .overrun s.seq.round)

/-- ROUND_TIMER_EXPIRY: in BETWEEN a round begins, in IN_ROUND an overrun is taken; the timer runs on (R66, R67). Not
taken while the timer is stopped. -/
def execRoundTimerExpiry (s : State) : Outcome :=
  match s.seq.timer with
  | none => .next s
  | some t =>
    let timed : State := { s with seq := { s.seq with timer := some (Timer.start t.period) } }
    if s.seq.inRound then .next timed.overrun else .next timed.roundBegin.drive

/-! ## Time on an empty command queue (R21, R66, R167) -/

/-- One REFCLK period passes at a running timer. -/
def Timer.pass (t : Timer) : Timer := { t with elapsed := t.elapsed + 1 }

/-- One REFCLK period passes at a unit. -/
def State.passUnit (u : UnitId) (s : State) : State :=
  match s.res.units[u] with
  | none => s
  | some r => s.setUnit u (r.pass Config.refclkTime)

/-- One REFCLK period passes at every unit and at both timers. -/
def State.refclk (s : State) : State :=
  let t : State :=
    { s with
      seq := { s.seq with timer := s.seq.timer.map Timer.pass }
      delivery := { s.delivery with ackTimer := s.delivery.ackTimer.map Timer.pass } }
  t.passUnit 0 |>.passUnit 1 |>.passUnit 2 |>.passUnit 3

/-- What a step does when no command waits: one REFCLK period passes, unless a time-driven step is due, whose command
then comes first. -/
def State.idle (s : State) : State := if s.timeDue then s else s.refclk

end Sys2Proof.Machine
end

