-- ==== Sys2Proof/Machine/Requests.lean ====
section
/-! DEFINITION. The request handler: the taking of a request, the reply cache, the generic checks, and each request's own
checks, effects and reply (R175 to R183). -/

namespace Sys2Proof.Machine

/-! ## The handler (R177, R178) -/

/-- What carries out a request: the state after its effects, and the reply. -/
abbrev Service := Frame → State → State × Reply

/-- A reply frame joins the reply queue at its young end (R176). -/
def State.placeReply (f : Frame) (s : State) : State :=
  { s with handler := { s.handler with replies := s.handler.replies ++ [f] } }

/-- The cached reply that a request matches, if it matches (R178). -/
def Handler.cached (h : Handler) (f : Frame) : Option Frame :=
  match h.cache with
  | none => none
  | some e => if f.tag ≠ 0#8 ∧ e.tag = f.tag ∧ e.kind = f.kind then some e.reply else none

/-- The cache update of a request that was not answered from the cache (R177 step 4, R178). -/
def State.updateCache (f reply : Frame) (s : State) : State :=
  if f.tag = 0#8 then s
  else { s with handler := { s.handler with cache := some { tag := f.tag, kind := f.kind, reply := reply } } }

/-- The request at the head leaves the queue, the sequencer wakes from WATCH and STALLED ends (R75, R171, R177). -/
def State.beginTaking (rest : List Frame) (s : State) : State :=
  State.endStalled (State.wake .host { s with handler := { s.handler with requests := rest } })

/-- The steps of R177 on a request that has been taken: cache check, service, reply, cache update. -/
def State.answer (service : Service) (f : Frame) (s : State) : State :=
  match s.handler.cached f with
  | some reply => s.placeReply reply
  | none =>
    let served := service f s
    State.updateCache f (replyFrame f served.2) (served.1.placeReply (replyFrame f served.2))

/-- The handler takes the request at the head of the queue if it is READY, the reply queue has room and the request is
of the kinds of this command; otherwise the command is not taken (R177). -/
def State.takeRequest (ofKind : Byte → Bool) (service : Service) (s : State) : State :=
  match s.handler.requests with
  | [] => s
  | f :: rest =>
    if s.handler.canTake && ofKind f.kind then (s.beginTaking rest).answer service f else s

/-- The service of a defined kind: the generic checks first, then the request's own (R177 steps 2 and 3, R179). -/
def checked (k : RequestKind) (serve : List Byte → State → State × Reply) : Service := fun f s =>
  match k.generic f.payload with
  | some refused => (s, refused.reply)
  | none => serve f.payload s

/-- A request of one defined kind is taken. -/
def State.request (k : RequestKind) (serve : List Byte → State → State × Reply) (s : State) : State :=
  s.takeRequest (fun kind => kind == k.code) (checked k serve)

/-- A service that refuses, or has its effect and replies OK. -/
def guarded (refuse : List Byte → State → Option Refused) (effect : List Byte → State → State)
    (payload : List Byte) (s : State) : State × Reply :=
  match refuse payload s with
  | some refused => (s, refused.reply)
  | none => (effect payload s, Reply.ok)

/-! ## PING, GET_STATUS, RESET_PART (R181 to R183) -/

def servePing (payload : List Byte) (s : State) : State × Reply :=
  (s, Reply.okWith (Config.identity ++ payload))

/-- PING (R181). -/
def execPing (s : State) : Outcome := .next (s.request .ping servePing)

def serveGetStatus (_payload : List Byte) (s : State) : State × Reply := (s, Reply.okWith s.statusBytes)

/-- GET_STATUS (R182). -/
def execGetStatus (s : State) : Outcome := .next (s.request .getStatus serveGetStatus)

def serveResetPart (_payload : List Byte) (s : State) : State × Reply :=
  ({ s with handler := { s.handler with resetting := true } }, Reply.ok)

/-- RESET_PART: the OK reply is placed and the handler enters RESETTING (R183). -/
def execResetPart (s : State) : Outcome := .next (s.request .resetPart serveResetPart)

/-! ## SET_LINK (R172, R173) -/

def serveSetLink (payload : List Byte) (s : State) : State × Reply :=
  match firstFailing (linkChecks payload) with
  | some offset => (s, (Refused.badValue offset).reply)
  | none => ({ s with delivery := s.delivery.setParams (linkParams payload) }, Reply.ok)

/-- SET_LINK (R172, R173). -/
def execSetLink (s : State) : Outcome := .next (s.request .setLink serveSetLink)

/-! ## SET_CHANNEL, GET_CHANNEL (R13 to R19) -/

/-- Whether a channel in a state has a detection to lose at reconfiguration (R17). -/
def ChanState.detected : ChanState → Bool
  | .active | .releasing | .above | .below => true
  | .off | .settling | .idle | .arming | .calibrating | .fault | .unknown | .inside | .live => false

/-- The old detection is settled: the lock freed, and a CONFIG record if a detection is lost (R17). -/
def State.settleOldDetection (c : ChanId) (new : ChannelConfig) (s : State) : State :=
  let freed : State := { s with locks := freeLock c s.channels[c].config.delta.group s.locks }
  if s.channels[c].live.state.detected then
    freed.addStateRecord c none s.channels[c].live.state new.initialState .config none
  else freed

/-- The new configuration written whole and the live state cleared (R12, R18). -/
def State.writeConfig (c : ChanId) (new : ChannelConfig) (s : State) : State :=
  { s with channels := s.channels.set c { config := new, live := LiveState.cleared new.initialState } }

/-- The effects of an accepted SET_CHANNEL, in their order: the channel's jobs withdrawn, its MEASURE entries cancelled,
the operation partition filled, the old detection settled, the configuration written; then the sequencer acts on the slot
notices (R15 to R18, R43, R137). -/
def State.reconfigure (c : ChanId) (new : ChannelConfig) (s : State) : State :=
  let withdrawn := s.withdraw fun j => j.channel == c
  let cancelled := (withdrawn.cancelEntries c).fillPartition
  State.drive ((cancelled.settleOldDetection c new).writeConfig c new)

def serveSetChannel : List Byte → State → State × Reply :=
  guarded (fun p s => s.refuseSetChannel p) (fun p s => s.reconfigure (channelAt p 0) (configOf p))

/-- SET_CHANNEL (R13 to R18). -/
def execSetChannel (s : State) : Outcome := .next (s.request .setChannel serveSetChannel)

def serveGetChannel (payload : List Byte) (s : State) : State × Reply :=
  if 23 < byteAt payload 0 then (s, (Refused.badValue 0).reply)
  else
    (s, Reply.okWith
      (configBytes (channelAt payload 0) s.channels[channelAt payload 0].config
        ++ liveBytes s.channels[channelAt payload 0].live))

/-- GET_CHANNEL (R19). -/
def execGetChannel (s : State) : Outcome := .next (s.request .getChannel serveGetChannel)

/-! ## Scan requests (R58, R59, R62 to R64) -/

def serveSetScan : List Byte → State → State × Reply :=
  guarded (fun p s => s.refuseSetScan p)
    (fun p s => { s with seq := { s.seq with list := scanEntries p (byteAt p 0) 0 } })

/-- SET_SCAN (R58). -/
def execSetScan (s : State) : Outcome := .next (s.request .setScan serveSetScan)

def serveGetScan (_payload : List Byte) (s : State) : State × Reply := (s, Reply.okWith (scanBytes s.seq))

/-- GET_SCAN (R59). -/
def execGetScan (s : State) : Outcome := .next (s.request .getScan serveGetScan)

/-- The effects of an accepted SCAN_START: the round abandoned, the period stored, the mode and a run entered, the first
round begun, with the round timer for RUNNING and WATCH and without it for SINGLE (R63, R66). -/
def State.startScan (m : SeqMode) (period : Nat) (s : State) : State :=
  let abandoned := s.abandon
  match m with
  | .stopped => abandoned
  | .running =>
    State.startPaced .running period { abandoned with seq := { abandoned.seq with runPeriod := period } }
  | .watch =>
    State.startPaced .watch period { abandoned with seq := { abandoned.seq with watchPeriod := period } }
  | .single =>
    State.drive
      (State.roundBegin (State.beginRun .single { abandoned with seq := { abandoned.seq with timer := none } }))

def serveScanStart : List Byte → State → State × Reply :=
  guarded (fun p s => s.refuseScanStart p)
    (fun p s => s.startScan ((startMode (byteAt p 0)).getD .stopped) (fieldAt p 1 2))

/-- SCAN_START (R62, R63). -/
def execScanStart (s : State) : Outcome := .next (s.request .scanStart serveScanStart)

/-- The effects of SCAN_STOP (R64). -/
def State.stopScan (s : State) : State :=
  let abandoned := s.abandon
  { abandoned with seq := { abandoned.seq with timer := none, mode := .stopped } }

def serveScanStop (_payload : List Byte) (s : State) : State × Reply := (s.stopScan, Reply.ok)

/-- SCAN_STOP (R64). -/
def execScanStop (s : State) : Outcome := .next (s.request .scanStop serveScanStop)

/-! ## Operations (R125 to R127, R135) -/

/-- The operation that an accepted request enters into the table (R123, R126). -/
def newOperation (id : Nat) (k : OpKind) (p : List Byte) : Operation :=
  { opId := id, kind := k, samples := byteAt p 0, entries := (opChannels p).map OpEntry.fresh, current := 0
    started := false, outstanding := false }

/-- The operation takes its id and joins the table as its youngest (R124, R126 steps 1 and 2). -/
def State.acceptOperation (k : OpKind) (p : List Byte) (s : State) : State :=
  { s with
    ops := { table := s.ops.table ++ [newOperation s.ops.takenId k p], nextId := nextOpId s.ops.takenId } }

/-- The start of a calibration: the scan jobs of the channels withdrawn, then each channel put into CALIBRATING (R127). -/
def State.beginCalibration (cs : List ChanId) (s : State) : State :=
  cs.foldl (fun t c => t.startCalibration c) (s.withdraw fun j => j.isScan && cs.contains j.channel)

/-- The effects of an accepted CALIBRATE or MEASURE (R126). -/
def State.startOperation (k : OpKind) (p : List Byte) (s : State) : State :=
  match k with
  | .calibrate => State.drive ((s.acceptOperation k p).beginCalibration (opChannels p))
  | .measure => State.drive (s.acceptOperation k p)

/-- CALIBRATE and MEASURE: the refusals of R125, or the operation and ACCEPTED with its id (R126). -/
def serveOperation (k : OpKind) (payload : List Byte) (s : State) : State × Reply :=
  match s.refuseOperation k payload with
  | some refused => (s, refused.reply)
  | none => (s.startOperation k payload, { status := .accepted, rest := [codeByte s.ops.takenId] })

/-- CALIBRATE (R125 to R127). -/
def execCalibrate (s : State) : Outcome := .next (s.request .calibrate (serveOperation .calibrate))

/-- MEASURE (R125, R126). -/
def execMeasure (s : State) : Outcome := .next (s.request .measure (serveOperation .measure))

/-- The channels whose calibration an abort ends: those of the entries still PENDING, in list order (R135 step 3). -/
def Operation.pendingChannels (o : Operation) : List ChanId :=
  (o.entries.filter OpEntry.isPending).map OpEntry.channel

/-- The channels of an aborted operation: a CALIBRATE's go to SETTLING (R99, R135 step 3). -/
def State.releaseAborted (o : Operation) (s : State) : State :=
  match o.kind with
  | .calibrate => o.pendingChannels.foldl (fun t c => t.abortCalibration c) s
  | .measure => s

/-- The effects of an accepted ABORT_OP, in their order: the job withdrawn, the PENDING entries ABORTED, the channels
released, the OP_DONE record, the table; only then do both producers act on the slot notices of the withdrawal
(R135 step 6). -/
def State.abortOperation (o : Operation) (s : State) : State :=
  let released := (s.withdraw (Job.ofOp o.opId)).releaseAborted o
  let closed : Operation := { o with entries := closePending (fun _ => true) .aborted o.entries }
  let done := released.addRecord (closed.doneRecord true)
  State.drive { done with ops := done.ops.remove o.opId }

def serveAbortOp (payload : List Byte) (s : State) : State × Reply :=
  match s.ops.find (byteAt payload 0) with
  | none => (s, (Refused.badValue 0).reply)
  | some o => (s.abortOperation o, Reply.ok)

/-- ABORT_OP (R135). -/
def execAbortOp (s : State) : Outcome := .next (s.request .abortOp serveAbortOp)

/-! ## FLUSH_NOTICES (R151, R152) -/

/-- The notice queue's part of a flush: the tally is cleared whatever the scope (R152). -/
def NoticeQueue.flushed (scope : FlushScope) (q : NoticeQueue) : NoticeQueue :=
  { records := match scope with | .inFlight => q.records | .queue => [] | .both => []
    tally := Tally.zero }

/-- The in-flight set's part of a flush; a pass it empties ends at once when the transmitter stands at a frame boundary
(R152, R170). -/
def Delivery.flushed (scope : FlushScope) (boundary : Bool) (d : Delivery) : Delivery :=
  match scope with
  | .queue => d
  | .inFlight | .both => if boundary then d.discardInFlight.atBoundary else d.discardInFlight

/-- The effects of an accepted FLUSH_NOTICES (R152). -/
def State.flush (scope : FlushScope) (s : State) : State :=
  { s with notices := s.notices.flushed scope, delivery := s.delivery.flushed scope s.line.tx.isNone }

def serveFlush (payload : List Byte) (s : State) : State × Reply :=
  match flushScope (byteAt payload 0) with
  | none => (s, (Refused.badValue 0).reply)
  | some scope => (s.flush scope, Reply.ok)

/-- FLUSH_NOTICES (R151, R152). -/
def execFlushNotices (s : State) : Outcome := .next (s.request .flushNotices serveFlush)

/-! ## Undefined kinds (R179) -/

def serveUnknown : Service := fun _ s => (s, Refused.reply { status := .unknown, detail := noOffset })

/-- UNDEFINED_REQUEST_KIND: a request of an undefined kind of the host range is refused with UNKNOWN (R179). -/
def execUndefinedRequestKind (s : State) : Outcome :=
  .next (s.takeRequest (fun kind => !definedKind kind) serveUnknown)

end Sys2Proof.Machine
end

