-- ==== Sys2Proof/Machine/Dispatch.lean ====
section
/-! DEFINITION. One arm for each command of the table, each a call of its meaning. -/

namespace Sys2Proof.Machine

def exec (i : Instr) (s : State) : Host.Outcome State Fault Refusal :=
  match i with
  | .powerReset speed => Sys2Proof.Machine.execPowerReset speed s
  | .pinReset speed => Sys2Proof.Machine.execPinReset speed s
  | .softReset speed => Sys2Proof.Machine.execSoftReset speed s
  | .ping => Sys2Proof.Machine.execPing s
  | .getStatus => Sys2Proof.Machine.execGetStatus s
  | .setLink => Sys2Proof.Machine.execSetLink s
  | .setChannel => Sys2Proof.Machine.execSetChannel s
  | .getChannel => Sys2Proof.Machine.execGetChannel s
  | .setScan => Sys2Proof.Machine.execSetScan s
  | .getScan => Sys2Proof.Machine.execGetScan s
  | .scanStart => Sys2Proof.Machine.execScanStart s
  | .scanStop => Sys2Proof.Machine.execScanStop s
  | .calibrate => Sys2Proof.Machine.execCalibrate s
  | .measure => Sys2Proof.Machine.execMeasure s
  | .abortOp => Sys2Proof.Machine.execAbortOp s
  | .flushNotices => Sys2Proof.Machine.execFlushNotices s
  | .resetPart => Sys2Proof.Machine.execResetPart s
  | .undefinedRequestKind => Sys2Proof.Machine.execUndefinedRequestKind s
  | .ack b => Sys2Proof.Machine.execAck b s
  | .requestFrameArrival b => Sys2Proof.Machine.execRequestFrameArrival b s
  | .foreignFrame b => Sys2Proof.Machine.execForeignFrame b s
  | .lengthDiscard b => Sys2Proof.Machine.execLengthDiscard b s
  | .crcMismatch b => Sys2Proof.Machine.execCrcMismatch b s
  | .gapTimeout => Sys2Proof.Machine.execGapTimeout s
  | .replyTransmission => Sys2Proof.Machine.execReplyTransmission s
  | .firstTransmission => Sys2Proof.Machine.execFirstTransmission s
  | .noticeResend => Sys2Proof.Machine.execNoticeResend s
  | .frameEnd => Sys2Proof.Machine.execFrameEnd s
  | .ackTimerExpiry => Sys2Proof.Machine.execAckTimerExpiry s
  | .roundTimerExpiry => Sys2Proof.Machine.execRoundTimerExpiry s
  | .settleEdge u dt => Sys2Proof.Machine.execSettleEdge u dt s
  | .gateEdge u dt => Sys2Proof.Machine.execGateEdge u dt s
  | .gateClose u => Sys2Proof.Machine.execGateClose u s
  | .armingEdge u dt => Sys2Proof.Machine.execArmingEdge u dt s
  | .periodEdge u dt => Sys2Proof.Machine.execPeriodEdge u dt s
  | .intervalArmingEdge u e dt => Sys2Proof.Machine.execIntervalArmingEdge u e dt s
  | .intervalFinalEdge u e dt => Sys2Proof.Machine.execIntervalFinalEdge u e dt s
  | .spanTimeout u => Sys2Proof.Machine.execSpanTimeout u s
  | .byteReceived b => Sys2Proof.Machine.execByteReceived b s
  | .resetHeldLow => Sys2Proof.Machine.execResetHeldLow s

end Sys2Proof.Machine
end

