-- ==== Sys2Proof/Safety.lean ====
section
/-! DEFINITION. What a sound state of the SC24 is: the bounds and the agreements between blocks that the rules say always
hold, each under a name of its own, and a safe run. -/

namespace Sys2Proof.Machine

/-! ## Notice queue (R140, R143, R145, R146) -/

/-- At most 32 unsent records (R145). -/
abbrev NoticeQueue.Fits (q : NoticeQueue) : Prop := q.records.length ≤ Config.noticeCapacity

/-- RESULT records of channel c in the stretch that a list of records begins with, up to the next STATE record of c. -/
def resultsInStretch (c : ChanId) : List Record → Nat
  | [] => 0
  | r :: rs =>
    if r.isStateOf c then 0 else (if r.isResultOf c then 1 else 0) + resultsInStretch c rs

/-- In every stretch of channel c, from the first record or a STATE record of c up to the next one, stands at most one
RESULT record of c (R143). -/
def oneResultPerStretch (c : ChanId) : List Record → Bool
  | [] => true
  | r :: rs => decide (resultsInStretch c (r :: rs) ≤ 1) && oneResultPerStretch c rs

/-- The bound of R143 for every channel. -/
abbrev NoticeQueue.Stretched (q : NoticeQueue) : Prop := ∀ c : ChanId, oneResultPerStretch c q.records = true

/-- The three counts stand within 16 bits (R146). -/
abbrev Tally.Fits (t : Tally) : Prop :=
  t.results ≤ Config.countMax ∧ t.states ≤ Config.countMax ∧ t.others ≤ Config.countMax

/-! ## Job queue (R42, R49, R50) -/

/-- At most 6 waiting scan jobs and 2 waiting operation jobs (R42). -/
abbrev State.JobsFit (s : State) : Prop := s.scanWaiting ≤ Config.scanSlots ∧ s.opWaiting ≤ Config.opSlots

/-- No pass count exceeds 4 (R50). -/
abbrev State.PassCountsFit (s : State) : Prop := ∀ j ∈ s.queue, j.passCount ≤ Config.passLimit

/-! ## Units, cells and claims (R22, R23, R44) -/

/-- The running jobs, by unit. -/
def Resources.running (res : Resources) : List (UnitId × Running) :=
  [0, 1, 2, 3].filterMap fun u : UnitId => res.units[u].map fun r => (u, r)

/-- The units whose running job names a pin. -/
def Resources.onPin (res : Resources) (p : PinId) : List (UnitId × Running) :=
  res.running.filter fun x => x.2.job.snapshot.pin == p

/-- The claim entry that the running jobs on a pin call for (R44). -/
def claimFor : List (UnitId × Running) → Option PinClaim
  | [] => some .free
  | [(u, r)] => some (if r.job.snapshot.source.isOsc then .osc u else .ext 1)
  | xs => if xs.any (fun x => x.2.job.snapshot.source.isOsc) then none else some (.ext xs.length)

/-- The content that the running jobs holding a cell call for: at most one of them may hold it (R23). -/
def cellFor : List (UnitId × Running) → Option (Option CellHold)
  | [] => some none
  | [(_, r)] =>
    some (some
      { pin := r.job.snapshot.pin, mode := r.job.snapshot.source.cellMode, driveLevel := r.job.snapshot.driveLevel })
  | _ :: _ :: _ => none

/-- Claims, cells and units agree: every claim entry is the one its pin's running jobs call for, every cell holds what
the one job that holds it calls for, and exactly the jobs with an oscillator source hold a cell (R23, R44). -/
abbrev Resources.Agree (res : Resources) : Prop :=
  (∀ p : PinId, claimFor (res.onPin p) = some res.claims[p]) ∧
  (∀ c : CellId, cellFor (res.running.filter fun x => x.2.cell == some c) = some res.cells[c]) ∧
  (∀ x ∈ res.running, x.2.cell.isSome = x.2.job.snapshot.source.isOsc)

/-! ## Channels and locks (R2 to R11, R79, R100, R103) -/

/-- Whether the measuring fields lie in their ranges, and INTERVAL stands with source EXT alone (R2, R14). -/
def Measuring.valid (m : Measuring) : Bool :=
  decide (m.prescale ≤ 8) && inRange 1 65535 m.gateLength && inRange 1 4096 m.cycleCount && inRange 1 65535 m.timeout
  && decide (m.settleCycles ≤ 255) && !(m.mode == .interval && m.source.isOsc)

/-- Whether every field of a configuration lies in its range and the fields agree (R2 to R6, R14). -/
def ChannelConfig.valid (c : ChannelConfig) : Bool :=
  c.measuring.valid && inRange 1 65535 c.delta.onThreshold && decide (c.delta.offThreshold < c.delta.onThreshold)
  && inRange 1 63 c.delta.settleCount && decide (c.delta.driftStep ≤ 255) && inRange 1 255 c.delta.driftInterval
  && inRange 1 15 c.delta.reverseLimit && decide (c.delta.holdLimit ≤ 65535)
  && decide (c.window.highLimit ≤ Config.rawMax) && decide (c.window.lowLimit ≤ c.window.highLimit)
  && decide (c.window.hysteresis ≤ c.window.highLimit - c.window.lowLimit)
  && inRange 1 15 c.debounceOn && inRange 1 15 c.debounceOff && inRange 1 15 c.faultLimit && inRange 1 65535 c.changeStep
  && (c.delta.group.isNone || c.detector == .delta)

/-- Every channel holds a valid configuration (R2 to R6, R13, R14). -/
abbrev State.ConfigsValid (s : State) : Prop := ∀ c : ChanId, s.channels[c].config.valid = true

/-- Whether the counts, sums and values of a live state lie in their ranges under a configuration (R9 to R11). -/
def LiveState.inRange (cfg : ChannelConfig) (l : LiveState) : Bool :=
  l.baseline.all (fun b => decide (b ≤ Config.rawMax)) && l.lastRaw.all (fun r => decide (r ≤ Config.rawMax))
  && l.lastSignal.all (fun v => decide (v.natAbs ≤ Config.rawMax))
  && l.lastReported.all (fun v => decide (v.natAbs ≤ Config.rawMax))
  && decide (l.settleSamples < cfg.delta.settleCount) && decide (l.settleSum ≤ l.settleSamples * Config.rawMax)
  && decide (l.debounce ≤ 15) && decide (l.activeResults ≤ Config.countMax)
  && decide (l.driftCount < cfg.delta.driftInterval) && decide (l.reverseCount < cfg.delta.reverseLimit)
  && decide (l.faultCount < cfg.faultLimit)

/-- The live state of every channel lies in its ranges (R9 to R11). -/
abbrev State.LivesInRange (s : State) : Prop := ∀ c : ChanId, s.channels[c].live.inRange s.channels[c].config = true

/-- Whether a detector can be in a state (R8). -/
def Detector.admits (d : Detector) (st : ChanState) : Bool :=
  match d with
  | .delta =>
    match st with
    | .off | .settling | .idle | .arming | .active | .releasing | .calibrating | .fault => true
    | .unknown | .inside | .above | .below | .live => false
  | .window =>
    match st with
    | .off | .unknown | .inside | .above | .below | .fault => true
    | .settling | .idle | .arming | .active | .releasing | .calibrating | .live => false
  | .plain =>
    match st with
    | .off | .live | .fault => true
    | .settling | .idle | .arming | .active | .releasing | .calibrating | .unknown | .inside | .above | .below => false

/-- The state of a channel is one its detector can be in, OFF exactly when enable is OFF, and the baseline is present
exactly in IDLE, ARMING, ACTIVE and RELEASING (R8, R9, R79). -/
abbrev Channel.Sound (ch : Channel) : Prop :=
  ch.config.detector.admits ch.live.state = true ∧
  (ch.live.state = .off ↔ ch.config.enable = false) ∧
  (ch.live.baseline.isSome = ch.live.state.hasBaseline)

/-- While the suppressed mark is set, the channel is in ARMING and its debounce count equals debounce on (R103). -/
abbrev Channel.SuppressedSound (ch : Channel) : Prop :=
  ch.live.suppressed = true → ch.live.state = .arming ∧ ch.live.debounce = ch.config.debounceOn

/-- Whether a channel is touched: ACTIVE or RELEASING (R100). -/
def ChanState.touched : ChanState → Bool
  | .active | .releasing => true
  | .off | .settling | .idle | .arming | .calibrating | .fault | .unknown | .inside | .above | .below | .live => false

/-- Lock g is held by channel c exactly when c belongs to group g and is touched (R100). -/
abbrev State.LocksSound (s : State) : Prop :=
  ∀ (g : LockId) (c : ChanId),
    s.locks[g] = some c ↔ s.channels[c].config.delta.group = some g ∧ s.channels[c].live.state.touched = true

/-! ## Sequencer (R60) -/

/-- Between rounds the issue position is 0 and the outstanding set empty; no round is in progress in STOPPED; the round
timer runs exactly in RUNNING and WATCH; the round number, the overrun count and the scan list stand in their ranges
(R57, R60, R61). -/
abbrev Sequencer.Sound (q : Sequencer) : Prop :=
  (q.inRound = false → q.issuePos = 0 ∧ q.outstanding = []) ∧
  (q.mode = .stopped → q.inRound = false) ∧
  (q.timer.isSome = (q.mode == .running || q.mode == .watch)) ∧
  q.round ≤ 65535 ∧ q.overruns ≤ Config.countMax ∧ q.list.length ≤ 32 ∧
  (∀ e ∈ q.list, 1 ≤ e.divider ∧ e.divider ≤ 16) ∧ q.issuePos ≤ q.list.length

/-! ## Operations (R96, R123, R124) -/

/-- PENDING entries of CALIBRATE operations that name a channel. -/
def OpEngine.calibrations (e : OpEngine) (c : ChanId) : Nat :=
  ((e.table.filter fun o => o.kind == .calibrate).map fun o =>
    o.entries.countP fun x => x.isPending && x.channel == c).sum

/-- At most 4 operations, with distinct ids from 1 to 255; the next id from 1 to 255 (R123, R124). -/
abbrev OpEngine.Fits (e : OpEngine) : Prop :=
  e.table.length ≤ Config.opCapacity ∧ (e.table.map Operation.opId).Nodup ∧
  (∀ o ∈ e.table, 1 ≤ o.opId ∧ o.opId ≤ 255) ∧ 1 ≤ e.nextId ∧ e.nextId ≤ 255

/-- The first PENDING entry of every operation in the table is its current one (R133). -/
abbrev OpEngine.CurrentPending (e : OpEngine) : Prop := ∀ o ∈ e.table, firstPending 0 o.entries = some o.current

/-- Whether the tallies of an entry agree with each other and with the samples per channel (R123, R131, R132). -/
def OpEntry.fits (samples : Nat) (e : OpEntry) : Bool :=
  decide (e.valid ≤ e.taken) && decide (e.taken ≤ samples) && (!e.isPending || decide (e.taken < samples))
  && decide (e.sum ≤ e.valid * Config.rawMax)
  && (match e.minMax with
    | none => e.valid == 0
    | some (lo, hi) => decide (0 < e.valid) && decide (lo ≤ hi) && decide (hi ≤ Config.rawMax))

/-- Whether an operation has a legal number of samples, 1 to 8 entries of distinct channels, and fitting tallies (R123). -/
def Operation.fits (o : Operation) : Bool :=
  inRange 1 o.kind.maxSamples o.samples && inRange 1 8 o.entries.length
  && decide (o.entries.map OpEntry.channel).Nodup && o.entries.all (OpEntry.fits o.samples)

/-- Every operation of the table fits (R123). -/
abbrev OpEngine.TalliesFit (e : OpEngine) : Prop := ∀ o ∈ e.table, o.fits = true

/-- A channel in CALIBRATING is named by exactly one unfinished entry of a CALIBRATE operation, any other by none (R96). -/
abbrev State.CalibrationsSound (s : State) : Prop :=
  ∀ c : ChanId, s.ops.calibrations c = if s.channels[c].live.state = .calibrating then 1 else 0

/-- The jobs waiting and running. -/
def State.jobs (s : State) : List Job := s.queue ++ s.res.running.map fun x => x.2.job

/-- The snapshots of all jobs lie in their ranges (R2, R41). -/
abbrev State.SnapshotsValid (s : State) : Prop := ∀ j ∈ s.jobs, j.snapshot.valid = true

/-- Whether a job is the one that an operation issues for its current entry (R129). -/
def Job.samples (o : Operation) (j : Job) : Bool :=
  j.origin == .op o.opId o.current && o.currentEntry.any fun e => e.channel == j.channel

/-- Each operation has exactly one job waiting or running while its job outstanding is YES and none while it is NO, and
every operation job samples the current entry of an operation of the table (R123, R128, R129, R137). -/
abbrev State.OpJobsSound (s : State) : Prop :=
  (∀ o ∈ s.ops.table, s.jobs.countP (Job.ofOp o.opId) = o.outstanding.toNat) ∧
  (∀ j ∈ s.jobs, j.isOp = true → s.ops.table.any (fun o => j.samples o) = true)

/-- Whether a scan job belongs to the round in progress: its round, an outstanding entry index, that entry's channel
(R69, R70). -/
def Sequencer.owns (q : Sequencer) (j : Job) : Bool :=
  match j.origin with
  | .scan entry round =>
    q.inRound && round == q.round && q.outstanding.contains entry
      && q.list[entry]?.any fun e => e.channel == j.channel
  | .op _ _ => true

/-- Every scan job, waiting or running, belongs to the round in progress, and every outstanding entry index stands before
the issue position and has exactly one job (R69, R70). -/
abbrev State.ScanJobsSound (s : State) : Prop :=
  (∀ j ∈ s.jobs, s.seq.owns j = true) ∧ s.seq.outstanding.Nodup ∧
  (∀ e ∈ s.seq.outstanding,
    e < s.seq.issuePos ∧ s.jobs.countP (fun j => j.origin == .scan e s.seq.round) = 1)

/-- In WATCH the ops table is empty, and no unit but CU0 runs a job and no cell but OC0 is held (R51, R73). -/
abbrev State.WatchSound (s : State) : Prop :=
  s.seq.mode = .watch →
    s.ops.table = [] ∧ (∀ u : UnitId, u ≠ 0 → s.res.units[u] = none) ∧ (∀ c : CellId, c ≠ 0 → s.res.cells[c] = none)

/-! ## Link (R156 to R178) -/

/-- The link parameters stand in their ranges (R172). -/
abbrev LinkParams.InRange (p : LinkParams) : Prop :=
  1 ≤ p.window ∧ p.window ≤ 4 ∧ 5 ≤ p.ackTimeout ∧ p.ackTimeout ≤ 2000 ∧ p.retryLimit ≤ 7

/-- Notices carry consecutive sequence numbers from 1 to 255, 255 followed by 1, and `next` follows the last (R164). -/
def numberedUpTo (next : Nat) : List Notice → Bool
  | [] => true
  | x :: xs =>
    inRange 1 255 x.seq && seqAfter x.seq == (match xs with | [] => next | y :: _ => y.seq) && numberedUpTo next xs

/-- At most 4 notices in flight, numbered consecutively up to the next number; the retry count and the parameters in
their ranges; the pass set a young end of the in-flight set, and empty outside RESEND; the ack timer running only in OPEN
with notices in flight; HOLD exactly while notices are disabled (R164, R167, R172, R173). -/
abbrev Delivery.Sound (d : Delivery) : Prop :=
  d.params.InRange ∧ d.inFlight.length ≤ 4 ∧ numberedUpTo d.nextSeq d.inFlight = true ∧
  1 ≤ d.nextSeq ∧ d.nextSeq ≤ 255 ∧ d.retries ≤ 7 ∧ d.passSet <:+ d.inFlight ∧
  (d.state ≠ .resend → d.passSet = []) ∧ (d.ackTimer ≠ none → d.state = .opened ∧ d.inFlight ≠ []) ∧
  (d.state = .hold ↔ d.params.notices = false)

/-- Whether a frame has the length of a frame on the line: a body of 2 to 130 bytes (R157). -/
def Frame.legal (f : Frame) : Bool := decide (f.payload.length ≤ 128)

/-- Whether a frame is a request: a legal frame of a host-to-part kind other than ACK (R157, R162). -/
def Frame.isRequest (f : Frame) : Bool := f.legal && f.kind != ackKind && !partKind f.kind

/-- Whether a frame is a frame of the part (R157). -/
def Frame.isOwn (f : Frame) : Bool := f.legal && partKind f.kind

/-- Whether an entry of the reply cache answers a request with a non-zero tag (R178, R180). -/
def CacheEntry.fits (e : CacheEntry) : Bool :=
  e.tag != 0#8 && !partKind e.kind && e.reply.legal && e.reply.kind == e.kind + 0x80#8 && e.reply.tag == e.tag

/-- At most 2 requests and 2 replies wait; the requests are requests, the replies frames of the part, and the cached
reply answers what the cache says (R175, R176, R178). -/
abbrev Handler.Sound (h : Handler) : Prop :=
  h.requests.length ≤ Config.requestCapacity ∧ h.replies.length ≤ Config.replyCapacity ∧
  (∀ f ∈ h.requests, f.isRequest = true) ∧ (∀ f ∈ h.replies, f.isOwn = true) ∧ h.cache.all CacheEntry.fits = true

/-- The receiver never holds more than the frame's length (R159). -/
def Receiver.fits : Receiver → Bool
  | .hunt => true
  | .length => true
  | .body len got => inRange 2 130 len && decide (got.length < len)
  | .crc len got _ => inRange 2 130 len && decide (got.length = len)

/-- Every record waiting, every notice in flight and the frame on the line make a legal frame of the part (R157). -/
abbrev State.FramesLegal (s : State) : Prop :=
  (∀ r ∈ s.notices.records, r.payload.length ≤ 128) ∧ (∀ n ∈ s.delivery.inFlight, n.frame.isOwn = true) ∧
  s.line.tx.all (fun x => x.frame.isOwn) = true

/-- The receiver stands within a frame of a legal length, and the discarded-frame count within 16 bits (R159, R161). -/
abbrev Line.Sound (l : Line) : Prop := l.receiver.fits = true ∧ l.discards ≤ Config.countMax

/-! ## Requests (R177, R180) -/

/-- The request kind that a command of the handler takes; none for every other command. -/
def requestKindOf : Instr → Option RequestKind
  | .ping => some .ping
  | .getStatus => some .getStatus
  | .setLink => some .setLink
  | .setChannel => some .setChannel
  | .getChannel => some .getChannel
  | .setScan => some .setScan
  | .getScan => some .getScan
  | .scanStart => some .scanStart
  | .scanStop => some .scanStop
  | .calibrate => some .calibrate
  | .measure => some .measure
  | .abortOp => some .abortOp
  | .flushNotices => some .flushNotices
  | .resetPart => some .resetPart
  | .powerReset _ | .pinReset _ | .softReset _ | .undefinedRequestKind | .ack _ | .requestFrameArrival _
  | .foreignFrame _ | .lengthDiscard _ | .crcMismatch _ | .gapTimeout | .replyTransmission | .firstTransmission
  | .noticeResend | .frameEnd | .ackTimerExpiry | .roundTimerExpiry | .settleEdge _ _ | .gateEdge _ _ | .gateClose _
  | .armingEdge _ _ | .periodEdge _ _ | .intervalArmingEdge _ _ _ | .intervalFinalEdge _ _ _ | .spanTimeout _
  | .byteReceived _ | .resetHeldLow => none

/-- A field of a request payload: its offset, its size in bytes, and the lowest and highest value of its range. -/
structure FieldRange where
  offset : Nat
  size : Nat
  low : Nat
  high : Nat
deriving DecidableEq, Repr

/-- Whether the field's value in a payload lies in its range. -/
def FieldRange.holds (p : List Byte) (x : FieldRange) : Bool :=
  decide (x.low ≤ fieldAt p x.offset x.size) && decide (fieldAt p x.offset x.size ≤ x.high)

/-- Whether the field's range holds every value of its bytes. -/
def FieldRange.isFull (x : FieldRange) : Bool := x.low == 0 && x.high == 256 ^ x.size - 1

/-- The fields of SET_CHANNEL after the channel number, in payload order, with the ranges of their values and codes
(R2 to R6, R13 step 3, R186, R188). -/
def setChannelFields : List FieldRange :=
  [⟨1, 1, 0, 1⟩, ⟨2, 1, 0, 23⟩, ⟨3, 1, 0, 2⟩, ⟨4, 1, 0, 2⟩, ⟨5, 1, 0, 8⟩, ⟨6, 2, 1, 65535⟩, ⟨8, 2, 1, 4096⟩,
    ⟨10, 1, 0, 3⟩, ⟨11, 2, 1, 65535⟩, ⟨13, 1, 0, 255⟩, ⟨14, 1, 0, 3⟩, ⟨15, 1, 0, 2⟩, ⟨16, 1, 0, 1⟩,
    ⟨17, 2, 1, 65535⟩, ⟨19, 2, 0, 65535⟩, ⟨21, 3, 0, 16777215⟩, ⟨24, 3, 0, 16777215⟩, ⟨27, 3, 0, 16777215⟩,
    ⟨30, 1, 1, 15⟩, ⟨31, 1, 1, 15⟩, ⟨32, 1, 1, 63⟩, ⟨33, 1, 0, 255⟩, ⟨34, 1, 1, 255⟩, ⟨35, 1, 1, 15⟩,
    ⟨36, 2, 0, 65535⟩, ⟨38, 1, 1, 15⟩, ⟨39, 1, 0, 4⟩, ⟨40, 1, 0, 1⟩, ⟨41, 1, 0, 2⟩, ⟨42, 2, 1, 65535⟩]

/-- The handler can take the request f, behind which `rest` waits (R177). -/
abbrev State.CanTake (s : State) (f : Frame) (rest : List Frame) : Prop :=
  s.handler.requests = f :: rest ∧ s.handler.resetting = false ∧ s.handler.replies.length < Config.replyCapacity

/-- The handler can take the request f of kind k, and the reply cache does not answer it (R177, R178). -/
abbrev State.TakesNew (s : State) (k : RequestKind) (f : Frame) (rest : List Frame) : Prop :=
  s.CanTake f rest ∧ f.kind = k.code ∧ s.handler.cached f = none

/-- The state after a reply to the request f has been placed and, with a non-zero tag, cached (R177, R178). -/
def State.replied (f : Frame) (r : Reply) (s : State) : State :=
  State.updateCache f (replyFrame f r) (s.placeReply (replyFrame f r))

/-- `t` shows the request f answered with r: its reply queue, cache and request queue are as the reply leaves them, and
neither the line, nor the RESET level, nor the command queue, nor the delivery has changed beyond the end of STALLED
(R177, R178). -/
abbrev State.Answered (s : State) (f : Frame) (rest : List Frame) (r : Reply) (t : State) : Prop :=
  t.handler =
      { s.handler with
        requests := rest
        replies := s.handler.replies ++ [replyFrame f r]
        cache := if f.tag = 0#8 then s.handler.cache
          else some { tag := f.tag, kind := f.kind, reply := replyFrame f r } } ∧
    t.delivery = (s.beginTaking rest).delivery ∧ t.line = s.line ∧ t.resetHeld = s.resetHeld ∧ t.pending = s.pending

/-- The command of a reset of a kind, with the speed SPD gives; a SOFT reset comes at the end of the RESET_PART reply
(R150, R183). -/
def State.ResetBy (s : State) (k : ResetKind) (speed : LineSpeed) (c : Instr) : Prop :=
  match k with
  | .power => c = .powerReset speed
  | .pin => c = .pinReset speed
  | .soft => c = .softReset speed ∧ s.softResetDue = true

/-- The byte b ends, with a matching CRC, the frame of length len whose body the receiver holds (R158, R159). -/
abbrev State.EndsFrame (s : State) (len : Nat) (got : List Byte) (b : Byte) : Prop :=
  s.resetHeld = false ∧
    ∃ low, s.line.receiver = .crc len got (some low) ∧ [low, b] = crcBytes (crcOf (codeByte len :: got))

/-- The receiver after bytes that each advance it; none where one does something else (R159). -/
def Receiver.after : List Byte → Receiver → Option Receiver
  | [], r => some r
  | b :: bs, r =>
    match r.take b with
    | .advance r' => Receiver.after bs r'
    | .badLength | .badCrc | .ack _ | .request _ | .foreign => none

/-! ## Clocks and producers -/

/-- Whether the counters of a running job stand within what bounds its phase: over an open gate the edge counter and the
gate length, otherwise the timeout; and a count that is no gate began no earlier than its span (R26, R29 to R32). -/
def Running.inTime (r : Running) : Bool :=
  if r.gateOpen then decide (r.edges ≤ Config.edgeMax) && decide (r.ticks ≤ r.job.snapshot.gateLength)
  else decide (r.spanTicks ≤ r.job.snapshot.timeout) && (r.phase != .count || decide (r.tickTime ≤ r.spanTime))

/-- Every running job's counters stand within their bounds (R26, R29 to R32). -/
abbrev State.ClocksSound (s : State) : Prop := ∀ x ∈ s.res.running, x.2.inTime = true

/-- Neither producer has anything to do: no entry and no sample that could be issued goes without a free slot, and no
round that is over stands in progress (R43, R69, R71, R128). -/
abbrev State.ProducersRest (s : State) : Prop := s.producerStep false = .rest

/-- No waiting job is left that a grant pass would grant: a further pass changes nothing (R42, R46, R54). -/
abbrev State.GrantsRest (s : State) : Prop := s.grantPass = s

/-! ## Rounds (R57, R68, R69) -/

/-- Whether the entry at index i of the scan list is due and eligible in a round of a mode (R57, R68 steps 3 and 4). -/
def State.DueAndEligible (s : State) (mode : SeqMode) (round i : Nat) : Prop :=
  ∃ e, s.seq.list[i]? = some e ∧ round % e.divider = 0 ∧ (mode = .watch → e.watch = true) ∧
    s.channels[e.channel].config.enable = true ∧ s.channels[e.channel].live.state ≠ .calibrating

/-- `t` shows the round of its number just begun in a mode over the scan list and the channels of `s`: it is in progress
exactly when an entry is due and eligible; then its eligible entries (the model's own field, log 10) are those, its
outstanding entries those of them before the issue position, and issue has ended or the scan partition is full;
otherwise it is over (R43, R68, R69, R71). -/
abbrev State.BeganRound (s : State) (mode : SeqMode) (t : State) : Prop :=
  (t.seq.inRound = true ↔ ∃ i, s.DueAndEligible mode t.seq.round i) ∧
  (t.seq.inRound = true →
    (∀ i, i ∈ t.seq.eligible ↔ s.DueAndEligible mode t.seq.round i) ∧
    (∀ i, i ∈ t.seq.outstanding ↔ s.DueAndEligible mode t.seq.round i ∧ i < t.seq.issuePos) ∧
    (s.seq.list.length ≤ t.seq.issuePos ∨ Config.scanSlots ≤ t.scanWaiting)) ∧
  (t.seq.inRound = false → t.seq.issuePos = 0 ∧ t.seq.outstanding = [])

/-- Every scan job of `t`, waiting or running, names the round in which `t` stands (R69). -/
abbrev State.ScanJobsOfRound (t : State) : Prop := ∀ j ∈ t.jobs, ∀ e n, j.origin = .scan e n → n = t.seq.round

/-! ## The whole part -/

/-- A sound state. -/
structure State.Sound (s : State) : Prop where
  noticesFit : s.notices.Fits
  stretched : s.notices.Stretched
  tallyFits : s.notices.tally.Fits
  jobsFit : s.JobsFit
  passCountsFit : s.PassCountsFit
  resourcesAgree : s.res.Agree
  configsValid : s.ConfigsValid
  snapshotsValid : s.SnapshotsValid
  livesInRange : s.LivesInRange
  channelsSound : ∀ c : ChanId, s.channels[c].Sound
  suppressedSound : ∀ c : ChanId, s.channels[c].SuppressedSound
  locksSound : s.LocksSound
  sequencerSound : s.seq.Sound
  opsFit : s.ops.Fits
  currentPending : s.ops.CurrentPending
  talliesFit : s.ops.TalliesFit
  calibrationsSound : s.CalibrationsSound
  opJobsSound : s.OpJobsSound
  scanJobsSound : s.ScanJobsSound
  watchSound : s.WatchSound
  deliverySound : s.delivery.Sound
  handlerSound : s.handler.Sound
  framesLegal : s.FramesLegal
  lineSound : s.line.Sound
  clocksSound : s.ClocksSound
  producersRest : s.ProducersRest
  grantsRest : s.GrantsRest

/-- A safe step: the machine goes on, into a sound state. -/
def State.SafeStep (s : State) : Prop := ∃ t, step s = .next t ∧ t.Sound

end Sys2Proof.Machine
end

