-- ==== Sys2Proof/Certificates/Slice0/Obligations.lean ====
section
/-! DEFINITION. The statements for the provers. Each is listed, with the rules it rests on, in OBLIGATIONS.json. -/

open Sys2Proof Sys2Proof.Machine

/-! ## The step -/

/-- A step takes the command at the front of the queue and runs it with the queue's rest. -/
def Obligations.StepTakesFrontCommand : Prop :=
  ∀ (c : Instr) (rest : List Instr) (s : State),
    step { s with pending := c :: rest } = exec c { s with pending := rest }

/-- On an empty queue, when no time-driven step is due, one REFCLK period passes at every running unit and at both
timers, and nothing else changes; when one is due, nothing changes (the model's choice, log 2). That the span
counter stands still over an open gate is the model's choice (log 28), and so is the picosecond in which the times of a
unit are held, a period being 62500 of them (log 29). -/
def Obligations.EmptyQueueLetsTimePass : Prop :=
  ∀ s : State, s.pending = [] →
    (s.timeDue = true → step s = .next s) ∧
    (s.timeDue = false →
      ∃ units : Vector (Option Running) 4,
        (∀ u : UnitId, units[u] = s.res.units[u].map fun r =>
          { r with
            tickTime := if r.phase = .count then r.tickTime + 62500 else r.tickTime
            spanTime := if r.phase = .count ∧ r.job.snapshot.mode = .gated then r.spanTime else r.spanTime + 62500 }) ∧
        step s = .next
          { s with
            res := { s.res with units := units }
            seq := { s.seq with timer := s.seq.timer.map fun t => { t with elapsed := t.elapsed + 1 } }
            delivery :=
              { s.delivery with
                ackTimer := s.delivery.ackTimer.map fun t => { t with elapsed := t.elapsed + 1 } } })

/-! ## Resets -/

/-- After every reset the notice queue holds the HELLO record of its kind alone, which goes out with number 1, or waits in
HOLD after a SOFT reset that kept notices disabled; ATTN is asserted unless RESET is held low (R149, R150, R154, R164,
R165). The level of the RESET pin after each reset is the model's reading (log 14); that FIRST_TRANSMISSION in HOLD
changes nothing is the model's choice (log 1). -/
def Obligations.ResetsPlaceHelloAlone : Prop :=
  ∀ (k : ResetKind) (speed : LineSpeed) (c : Instr) (s : State),
    s.ResetBy k speed c → 1 ≤ s.delivery.params.window →
    ∃ t, exec c s = .next t ∧
      t.notices = { records := [.hello k speed], tally := { results := 0, states := 0, others := 0 } } ∧
      t.delivery.inFlight = [] ∧ t.delivery.nextSeq = 1 ∧
      t.resetHeld = (match k with | .pin => false | .power | .soft => s.resetHeld) ∧
      (t.resetHeld = false → t.attn = true) ∧
      (t.delivery.params.notices = true → t.resetHeld = false →
        ∃ u, exec .firstTransmission t = .next u ∧ u.notices.records = [] ∧
          u.delivery.inFlight = [{ seq := 1, body := .record (.hello k speed) }] ∧
          u.line.tx = some { source := .first, frame := Notice.frame { seq := 1, body := .record (.hello k speed) } }) ∧
      (t.delivery.params.notices = false → t.delivery.state = .hold ∧ exec .firstTransmission t = .next t)

/-- After every reset the handler is READY with empty queues and an empty cache, and it reports the kind of the reset
(R184). -/
def Obligations.ResetReadiesHandler : Prop :=
  ∀ (k : ResetKind) (speed : LineSpeed) (c : Instr) (s : State), s.ResetBy k speed c →
    ∃ t, exec c s = .next t ∧
      t.handler = { requests := [], replies := [], cache := none, resetting := false, lastReset := k } ∧
      (codeByte Status.ok.code :: t.statusBytes)[25]? = some (codeByte k.code) ∧
      t.notices.records = [.hello k speed]

/-- What every block holds after a reset: the default configuration and OFF in every channel, no job, no claim, no held
cell, FREE units, the sequencer STOPPED, free locks, no operation, an idle link at the speed SPD gives; the link
parameters are the defaults, but for a SOFT reset, which keeps them (R20, R39, R55, R60, R100, R138, R156, R161, R164,
R172). Of the model's own fields, `eligible` is empty (log 10), and `choices` (log 6) and `pending` (log 22) are kept. -/
def Obligations.ResetsRestoreEveryBlock : Prop :=
  ∀ (k : ResetKind) (speed : LineSpeed) (c : Instr) (s : State), s.ResetBy k speed c →
    ∃ t, exec c s = .next t ∧
      (∀ p : PinId, t.res.claims[p] = .free) ∧ (∀ o : CellId, t.res.cells[o] = none) ∧
      (∀ u : UnitId, t.res.units[u] = none) ∧ t.queue = [] ∧
      t.seq =
        { list := [], mode := .stopped, round := 0, inRound := false, timer := none, runPeriod := 20
          watchPeriod := 250, heldStart := false, overruns := 0, overrunReported := false, issuePos := 0
          outstanding := [], eligible := [] } ∧
      (∀ n : ChanId, t.channels[n] =
        { config :=
            { enable := false
              measuring :=
                { pin := n, source := .oscCap, mode := .gated, prescale := 0, gateLength := 16000, cycleCount := 64
                  edgePair := .riseRise, timeout := 8000, settleCycles := 8, driveLevel := 1 }
              detector := .plain
              delta :=
                { direction := .falling, onThreshold := 100, offThreshold := 60, settleCount := 8, driftStep := 1
                  driftInterval := 16, reverseLimit := 4, holdLimit := 0, group := none }
              window := { lowLimit := 0, highLimit := 16777215, hysteresis := 0 }
              debounceOn := 2, debounceOff := 2, faultLimit := 3, events := true, resultMode := .never
              changeStep := 1 }
          live :=
            { state := .off, baseline := none, settleSum := 0, settleSamples := 0, lastRaw := none
              lastSignal := none, debounce := 0, candidate := none, suppressed := false, activeResults := 0
              driftCount := 0, reverseCount := 0, faultCount := 0, lastReported := none } }) ∧
      (∀ g : LockId, t.locks[g] = none) ∧ t.ops = { table := [], nextId := 1 } ∧
      t.line = { speed := speed, receiver := .hunt, discards := 0, lastDiscard := none, tx := none } ∧
      (∃ p : LinkParams,
        p = (match k with
          | .power | .pin => { window := 2, ackTimeout := 100, retryLimit := 3, notices := true }
          | .soft => s.delivery.params) ∧
        t.delivery =
          { state := if p.notices then .opened else .hold, inFlight := [], passSet := [], ackTimer := none
            retries := 0, nextSeq := 1, params := p }) ∧
      t.choices = s.choices ∧ t.pending = s.pending

/-- RESET driven low cuts off the frame on TXD; while it is low ATTN is released, no byte is read and nothing is sent.
That nothing else changes when RESET goes low is the model's choice (log 13), and so is that the link's commands then
change nothing (log 1) (R154, R156, R163). In every state ATTN is asserted exactly when RESET is not held low and the
notice queue, the in-flight set or the tally is non-empty; it is driven low then and high-impedance otherwise, and the
pulled-up line is high when no part on it drives it low (R153, R154). -/
def Obligations.ResetHeldLowSilencesLink : Prop :=
  (∀ s : State, ∃ t, exec .resetHeldLow s = .next t ∧
    t = { s with line := { s.line with tx := none }, resetHeld := true } ∧ t.attn = false ∧ t.txd = none ∧
    ∀ c : Instr,
      (c = .gapTimeout ∨ c = .replyTransmission ∨ c = .firstTransmission ∨ c = .noticeResend ∨ c = .frameEnd ∨
        ∃ b : Byte, c = .byteReceived b ∨ c = .ack b ∨ c = .requestFrameArrival b ∨ c = .foreignFrame b ∨
          c = .lengthDiscard b ∨ c = .crcMismatch b) →
      exec c t = .next t) ∧
  (∀ s : State,
    (s.attn = true ↔ s.resetHeld = false ∧
      (s.notices.records ≠ [] ∨ s.delivery.inFlight ≠ [] ∨
        s.notices.tally ≠ { results := 0, states := 0, others := 0 })) ∧
    s.attnDrive = (if s.attn then .low else .highImpedance) ∧
    ∀ others : List OpenDrain,
      s.attnLine others = true ↔ s.attn = false ∧ ∀ d ∈ others, d = .highImpedance)

/-! ## Receiver -/

/-- What each byte does to the receiver: a start byte, a length from 2 to 130, the body bytes and the low CRC byte advance it,
and another byte than E7h in HUNT is ignored; each discard returns it to HUNT, counts, sets its cause, and does nothing
else (R159 to R162). That GAP_TIMEOUT in HUNT, where no gap is timed, changes nothing is the model's choice (log 1). -/
def Obligations.ReceiverTakesBytes : Prop :=
  (∀ (s : State) (b : Byte), s.resetHeld = false →
    (s.line.receiver = .hunt → b = 0xE7#8 →
      exec (.byteReceived b) s = .next { s with line := { s.line with receiver := .length } }) ∧
    (s.line.receiver = .hunt → b ≠ 0xE7#8 → exec (.byteReceived b) s = .next s) ∧
    (s.line.receiver = .length → 2 ≤ b.toNat → b.toNat ≤ 130 →
      exec (.byteReceived b) s = .next { s with line := { s.line with receiver := .body b.toNat [] } }) ∧
    (∀ len got, s.line.receiver = .body len got → got.length + 1 < len →
      exec (.byteReceived b) s = .next { s with line := { s.line with receiver := .body len (got ++ [b]) } }) ∧
    (∀ len got, s.line.receiver = .body len got → got.length + 1 = len →
      exec (.byteReceived b) s = .next { s with line := { s.line with receiver := .crc len (got ++ [b]) none } }) ∧
    (∀ len got, s.line.receiver = .crc len got none →
      exec (.byteReceived b) s = .next { s with line := { s.line with receiver := .crc len got (some b) } })) ∧
  (∀ (s : State) (b : Byte), s.resetHeld = false →
    let after (cause : DiscardCause) : State :=
      { s with
        line :=
          { s.line with receiver := .hunt, discards := min (s.line.discards + 1) 65535, lastDiscard := some cause } }
    (s.line.receiver = .length → (b.toNat < 2 ∨ 130 < b.toNat) →
      exec (.lengthDiscard b) s = .next (after .length)) ∧
    (∀ len got, s.EndsFrame len got b → got.getD 0 0 = 0x40#8 → len ≠ 2 →
      exec (.lengthDiscard b) s = .next (after .length)) ∧
    (∀ len got, s.EndsFrame len got b → 128 ≤ (got.getD 0 0).toNat →
      exec (.foreignFrame b) s = .next (after .foreign)) ∧
    (∀ len got low, s.line.receiver = .crc len got (some low) → [low, b] ≠ crcBytes (crcOf (codeByte len :: got)) →
      exec (.crcMismatch b) s = .next (after .crc)) ∧
    (s.line.receiver ≠ .hunt → exec .gapTimeout s = .next (after .gap)) ∧
    (s.line.receiver = .hunt → exec .gapTimeout s = .next s))

/-- Every frame that is sent is taken as that frame: from HUNT its bytes but the last advance the receiver, and the last
one dispatches the frame, while any other byte in its place ends a frame with a wrong CRC (R157 to R159). -/
def Obligations.FrameBytesAreReceived : Prop :=
  ∀ f : Frame, f.payload.length ≤ 128 →
    ∃ r last, Receiver.after f.bytes.dropLast .hunt = some r ∧ f.bytes.getLast? = some last ∧
      ∀ b : Byte, r.take b = if b = last then dispatchFrame (f.payload.length + 2) f else .badCrc

/-- A valid request frame wakes the sequencer from WATCH, ends STALLED, and joins the request queue, or is discarded with
cause QUEUE_FULL when two wait; the wake and the end of STALLED stand (R162, R171, R175). -/
def Obligations.RequestFrameArrival : Prop :=
  ∀ (s : State) (b : Byte) (len : Nat) (got : List Byte), s.EndsFrame len got b →
    got.getD 0 0 ≠ 0x40#8 → (got.getD 0 0).toNat < 128 →
    exec (.requestFrameArrival b) s = .next
      { State.wake .host { s with line := { s.line with receiver := .hunt } } with
        line :=
          if s.handler.requests.length < 2 then { s.line with receiver := .hunt }
          else
            { s.line with
              receiver := .hunt, discards := min (s.line.discards + 1) 65535, lastDiscard := some .queueFull }
        delivery :=
          if s.delivery.state = .stalled then
            { s.delivery with
              state := if s.delivery.inFlight = [] then .opened else .resend
              passSet := s.delivery.inFlight, ackTimer := none, retries := 0 }
          else s.delivery
        handler :=
          if s.handler.requests.length < 2 then
            { s.handler with
              requests :=
                s.handler.requests ++ [{ kind := got.getD 0 0, tag := got.getD 1 0, payload := got.drop 2 }] }
          else s.handler }

/-- An ACK is cumulative: the named notice and every older one leave the in-flight set and the pass set, and the retry
count becomes 0; an ACK that names none changes nothing. In OPEN the ack timer restarts or stops. In RESEND a pass whose
set it empties ends at once unless a resend frame is on the line (the model's reading of R168 and R170, log 11). -/
def Obligations.AckIsCumulative : Prop :=
  ∀ (s : State) (b tag : Byte), s.EndsFrame 2 [0x40#8, tag] b →
    (∀ older x rest, s.delivery.inFlight = older ++ x :: rest → x.seq = tag.toNat →
      (∀ y ∈ older, y.seq ≠ tag.toNat) →
      let left := s.delivery.passSet.filter fun y => rest.contains y
      let resending := s.line.tx.any fun x => x.source == .resend
      let ends : Prop := s.delivery.state = .resend ∧ left = [] ∧ resending = false
      exec (.ack b) s = .next
        { s with
          line := { s.line with receiver := .hunt }
          delivery :=
            { s.delivery with
              inFlight := rest, passSet := left, retries := 0
              state := if ends then .opened else s.delivery.state
              ackTimer :=
                if s.delivery.state = .opened ∨ ends then
                  if rest = [] then none else some { period := s.delivery.params.ackTimeout, elapsed := 0 }
                else s.delivery.ackTimer } }) ∧
    ((∀ y ∈ s.delivery.inFlight, y.seq ≠ tag.toNat) →
      exec (.ack b) s = .next { s with line := { s.line with receiver := .hunt } })

/-! ## Transmitter and delivery -/

/-- The transmitter's choice at a frame boundary: the head of the reply queue before every notice; in RESEND the oldest notice
of the pass set, with its own number and contents; no first transmission in HOLD, STALLED or RESEND, nor with the window
full; and no frame on the line is interrupted (R163, R165, R170, R176). That a choice not taken leaves the whole state as
it is, is the model's choice (log 1). -/
def Obligations.TransmitterChooses : Prop :=
  (∀ (s : State) (f : Frame) (rest : List Frame), s.handler.replies = f :: rest → s.line.tx = none →
    s.resetHeld = false →
    exec .replyTransmission s = .next
        { s with
          line := { s.line with tx := some { source := .reply, frame := f } }
          handler := { s.handler with replies := rest } } ∧
      exec .firstTransmission s = .next s ∧ exec .noticeResend s = .next s) ∧
  (∀ (s : State) (n : Notice) (rest : List Notice), s.delivery.passSet = n :: rest → s.delivery.state = .resend →
    s.line.tx = none → s.resetHeld = false → s.handler.replies = [] →
    exec .noticeResend s = .next
      { s with
        line := { s.line with tx := some { source := .resend, frame := n.frame } }
        delivery := { s.delivery with passSet := rest } }) ∧
  (∀ s : State,
    (s.delivery.state ≠ .opened ∨ s.delivery.params.window ≤ s.delivery.inFlight.length →
      exec .firstTransmission s = .next s) ∧
    (s.delivery.state ≠ .resend → exec .noticeResend s = .next s) ∧
    (s.line.tx ≠ none →
      exec .replyTransmission s = .next s ∧ exec .firstTransmission s = .next s ∧ exec .noticeResend s = .next s))

/-- A new notice: with a tally that is not empty an OVERFLOW notice with its counts, which are cleared, otherwise the
head of the queue; it takes the next sequence number and joins the in-flight set at its young end (R147, R148, R166).
That the command changes nothing when there is no notice to send is the model's choice (log 1), and so is that a HELLO
that waits in HOLD yields to an OVERFLOW notice (log 30). The frame of a notice has the kind of its record, the number as its tag, and the bytes of the layout and the code tables (R185, R187, R188). -/
def Obligations.FirstTransmission : Prop :=
  (∀ s : State, s.line.tx = none → s.resetHeld = false → s.handler.replies = [] → s.delivery.state = .opened →
    s.delivery.inFlight.length < s.delivery.params.window →
    let sent (body : NoticeBody) (q : NoticeQueue) : State :=
      { s with
        notices := q
        delivery :=
          { s.delivery with
            inFlight := s.delivery.inFlight ++ [{ seq := s.delivery.nextSeq, body := body }]
            nextSeq := if s.delivery.nextSeq = 255 then 1 else s.delivery.nextSeq + 1 }
        line :=
          { s.line with
            tx := some { source := .first, frame := Notice.frame { seq := s.delivery.nextSeq, body := body } } } }
    (s.notices.tally ≠ { results := 0, states := 0, others := 0 } →
      exec .firstTransmission s = .next
        (sent (.overflow s.notices.tally)
          { records := s.notices.records, tally := { results := 0, states := 0, others := 0 } })) ∧
    (s.notices.tally = { results := 0, states := 0, others := 0 } → ∀ r rest, s.notices.records = r :: rest →
      exec .firstTransmission s = .next (sent (.record r) { s.notices with records := rest })) ∧
    (s.notices.tally = { results := 0, states := 0, others := 0 } → s.notices.records = [] →
      exec .firstTransmission s = .next s)) ∧
  (∀ (seq : Nat),
    let u8 (n : Nat) : Byte := BitVec.ofNat 8 n
    let u16 (n : Nat) : List Byte := [u8 n, u8 (n / 256)]
    let u24 (n : Nat) : List Byte := [u8 n, u8 (n / 256), u8 (n / 65536)]
    let i32 (z : Int) : List Byte :=
      [BitVec.ofInt 8 z, BitVec.ofInt 8 (z / 256), BitVec.ofInt 8 (z / 65536), BitVec.ofInt 8 (z / 16777216)]
    let sent (body : NoticeBody) (kind : Byte) (payload : List Byte) : Prop :=
      Notice.frame { seq := seq, body := body } = { kind := kind, tag := u8 seq, payload := payload }
    (∀ k speed, sent (.record (.hello k speed)) 0xC1#8
      [match k with | .power => 1#8 | .pin => 2#8 | .soft => 3#8, 0x71#8, 1#8, 24#8, 4#8, 2#8,
        match speed with | .slow => 0#8 | .fast => 1#8]) ∧
    (∀ x : StateRecord, sent (.record (.state x)) 0xC2#8
      ([u8 x.channel.val, u8 (x.round.isSome.toNat + 2 * x.value.isSome.toNat)] ++ u16 (x.round.getD 0) ++
        [u8 x.previous.code, u8 x.next.code, u8 x.reason.code] ++ i32 (x.value.getD 0) ++ [0#8, 0#8, 0#8])) ∧
    (∀ x : ResultRecord, sent (.record (.result x)) 0xC3#8
      ([u8 x.channel.val,
          u8 (x.noSignal.toNat + 2 * x.overrange.toNat + 4 * x.suppressed.toNat + 16 * x.raw.isSome.toNat +
            32 * x.baseline.isSome.toNat + 64 * x.signal.isSome.toNat)] ++ u16 x.round ++ [u8 x.state.code] ++
        u24 (x.raw.getD 0) ++ u24 (x.baseline.getD 0) ++ i32 (x.signal.getD 0))) ∧
    (∀ x : OpDoneRecord, sent (.record (.opDone x)) 0xC4#8
      ([u8 x.opId, match x.kind with | .calibrate => 1#8 | .measure => 2#8, u8 x.aborted.toNat, u8 x.entries.length] ++
        (x.entries.map fun e =>
          [u8 e.channel.val, u8 e.outcome.code, u8 (e.first.isSome.toNat + 2 * e.minMax.isSome.toNat),
            u8 e.validCount] ++ u24 (e.first.getD 0) ++ u24 (e.minMax.getD (0, 0)).1 ++
            u24 (e.minMax.getD (0, 0)).2).flatten)) ∧
    (∀ event round, sent (.record (.scan event round)) 0xC5#8
      ((match event with
        | .done => [1#8, 0#8, 0#8]
        | .overrun => [2#8, 0#8, 0#8]
        | .woke .detect => [3#8, 1#8, 1#8]
        | .woke .host => [3#8, 1#8, 2#8]) ++ u16 round)) ∧
    (∀ x : Tally, sent (.overflow x) 0xC6#8 (u16 x.results ++ u16 x.states ++ u16 x.others))) ∧
  [ChanState.off, .settling, .idle, .arming, .active, .releasing, .calibrating, .fault, .unknown, .inside, .above,
      .below, .live].map ChanState.code = List.range 13 ∧
  [Reason.settled, .touch, .release, .holdTimeout, .zone, .fault, .recover, .config, .calibrating, .calibrated,
      .calAborted].map Reason.code = (List.range 11).map (· + 1) ∧
  [EntryOutcome.complete, .failed, .noSignal, .cancelled, .aborted].map EntryOutcome.code = [1, 2, 3, 4, 5]

/-- The end of a frame: a first transmission into an empty in-flight set starts the ack timer; a resend pass whose set is
empty ends, in OPEN, with the timer started if notices are in flight (R166, R170). -/
def Obligations.FrameEndActsOnDelivery : Prop :=
  ∀ (s : State) (x : Transmission), s.line.tx = some x → s.softResetDue = false →
    let start : Option Timer := some { period := s.delivery.params.ackTimeout, elapsed := 0 }
    exec .frameEnd s = .next
      { s with
        line := { s.line with tx := none }
        delivery :=
          if s.delivery.state = .resend ∧ s.delivery.passSet = [] then
            { s.delivery with state := .opened, ackTimer := if s.delivery.inFlight = [] then none else start }
          else if x.source = .first ∧ s.delivery.state = .opened ∧ s.delivery.ackTimer = none ∧
              s.delivery.inFlight ≠ [] then
            { s.delivery with ackTimer := start }
          else s.delivery }

/-- The expiry of the ack timer: below the retry limit the count is raised and a pass over the whole in-flight set
begins; at or above it delivery enters STALLED. It is taken in OPEN alone (R169). -/
def Obligations.AckTimerExpiry : Prop :=
  ∀ s : State,
    (s.delivery.state = .opened → s.delivery.ackTimer ≠ none → s.delivery.inFlight ≠ [] →
      exec .ackTimerExpiry s = .next
        { s with
          delivery :=
            if s.delivery.retries < s.delivery.params.retryLimit then
              { s.delivery with
                retries := s.delivery.retries + 1, state := .resend, passSet := s.delivery.inFlight
                ackTimer := none }
            else { s.delivery with state := .stalled, ackTimer := none } }) ∧
    (s.delivery.state ≠ .opened → exec .ackTimerExpiry s = .next s)

/-! ## Request handler -/

/-- The taking of a request wakes the sequencer and ends STALLED before anything else. In WATCH the wake makes a SCAN WOKE
record with reason HOST and the round number, leaves no scan job of the abandoned round, and begins a RUNNING run: its
flags cleared, the next round begun, the round timer from zero with the run period. Outside WATCH a wake changes nothing
(R61, R65, R66, R68, R75, R76, R171, R177). The eligible entries of a round stand in the model's own field (log 10). -/
def Obligations.TakingWakesAndEndsStall : Prop :=
  ∀ (rest : List Frame) (s : State),
    let t := s.beginTaking rest
    t.handler = { s.handler with requests := rest } ∧
      t.delivery =
        (if s.delivery.state = .stalled then
          { s.delivery with
            state := if s.delivery.inFlight = [] then .opened else .resend
            passSet := s.delivery.inFlight, ackTimer := none, retries := 0 }
        else s.delivery) ∧
      t.channels = s.channels ∧ t.locks = s.locks ∧ t.line = s.line ∧ t.resetHeld = s.resetHeld ∧
      t.pending = s.pending ∧ t.seq.mode ≠ .watch ∧ t.delivery.state ≠ .stalled ∧
      (s.seq.mode ≠ .watch →
        t = { s with handler := t.handler, delivery := t.delivery } ∧ ∀ r : WakeReason, s.wake r = s) ∧
      (s.seq.mode = .watch →
        t.seq.mode = .running ∧ t.seq.round = (s.seq.round + 1) % 65536 ∧
          t.seq.timer = some { period := s.seq.runPeriod, elapsed := 0 } ∧ t.seq.overrunReported = false ∧
          t.seq.heldStart = false ∧ t.seq.list = s.seq.list ∧ t.seq.runPeriod = s.seq.runPeriod ∧
          t.seq.watchPeriod = s.seq.watchPeriod ∧ t.seq.overruns = s.seq.overruns ∧
          t.notices = (s.notices.arrive (.scan (.woke .host) s.seq.round)).1 ∧
          s.BeganRound .running t ∧ t.ScanJobsOfRound ∧
          t.ops.table.map Operation.opId = s.ops.table.map Operation.opId ∧ t.ops.nextId = s.ops.nextId)

/-- A request that matches the cache in tag and kind is answered with the cached reply and not carried out, whatever its
payload (R177, R178). -/
def Obligations.CachedReplyRepeated : Prop :=
  ∀ (c : Instr) (f reply : Frame) (rest : List Frame) (s : State), s.CanTake f rest →
    ((∃ k, requestKindOf c = some k ∧ f.kind = k.code) ∨
      c = .undefinedRequestKind ∧ (f.kind.toNat = 0 ∨ 14 < f.kind.toNat)) →
    f.tag ≠ 0#8 → s.handler.cache = some { tag := f.tag, kind := f.kind, reply := reply } →
    exec c s = .next
      { s.beginTaking rest with
        handler := { s.handler with requests := rest, replies := s.handler.replies ++ [reply] } }

/-- Every request that is not answered from the cache gets one reply, which echoes its kind plus 80h and its tag and
enters the reply queue and, with a non-zero tag, the cache; a refusal carries one detail byte and leaves every block as
it was (R177, R178, R180). The kinds and the statuses have the codes of the code tables (R188). -/
def Obligations.EveryRequestGetsOneReply : Prop :=
  (∀ (c : Instr) (k : RequestKind) (f : Frame) (rest : List Frame) (s : State),
    requestKindOf c = some k → s.TakesNew k f rest →
    ∃ t r, exec c s = .next t ∧
      t.handler =
        { s.handler with
          requests := rest
          replies := s.handler.replies ++
            [{ kind := f.kind + 0x80#8, tag := f.tag, payload := codeByte r.status.code :: r.rest }]
          cache := if f.tag = 0#8 then s.handler.cache
            else some { tag := f.tag, kind := f.kind, reply := replyFrame f r }
          resetting := decide (k = .resetPart ∧ r.status = .ok) } ∧
      t.line = s.line ∧ t.resetHeld = s.resetHeld ∧ t.pending = s.pending ∧
      ((r.status = .ok ∧ k ≠ .calibrate ∧ k ≠ .measure) ∨
        (r.status = .accepted ∧ (k = .calibrate ∨ k = .measure) ∧ r.rest.length = 1) ∨
        (2 ≤ r.status.code ∧ r.rest.length = 1 ∧
          t = { s.beginTaking rest with handler := t.handler }))) ∧
  [RequestKind.ping, .getStatus, .setLink, .setChannel, .getChannel, .setScan, .getScan, .scanStart, .scanStop,
      .calibrate, .measure, .abortOp, .flushNotices, .resetPart].map RequestKind.code =
    (List.range 14).map (fun n => BitVec.ofNat 8 (n + 1)) ∧
  [Status.ok, .accepted, .unknown, .badLength, .badValue, .wrongState, .noResource].map Status.code = List.range 7

/-- A payload of the wrong length is refused with BAD_LENGTH and FFh; a SET_SCAN payload of the right length whose first
flags byte with an unassigned bit is that of entry i is refused with BAD_VALUE and that byte's offset (R179, R186). -/
def Obligations.GenericChecksRefuse : Prop :=
  ∀ (c : Instr) (k : RequestKind) (f : Frame) (rest : List Frame) (s : State),
    requestKindOf c = some k → s.TakesNew k f rest →
    ((match k with
      | .ping => 16 < f.payload.length
      | .getStatus | .getScan | .scanStop | .resetPart => f.payload.length ≠ 0
      | .setLink => f.payload.length ≠ 5
      | .setChannel => f.payload.length ≠ 44
      | .getChannel | .abortOp | .flushNotices => f.payload.length ≠ 1
      | .setScan => f.payload.length = 0 ∨ f.payload.length ≠ 1 + 3 * (f.payload.getD 0 0).toNat
      | .scanStart => f.payload.length ≠ 3
      | .calibrate | .measure => f.payload.length < 2 ∨ f.payload.length ≠ 2 + (f.payload.getD 1 0).toNat) →
      exec c s = .next ((s.beginTaking rest).replied f { status := .badLength, rest := [0xFF#8] })) ∧
    (∀ i : Nat, k = .setScan → f.payload.length = 1 + 3 * (f.payload.getD 0 0).toNat →
      i < (f.payload.getD 0 0).toNat → 2 ≤ (f.payload.getD (3 * i + 3) 0).toNat →
      (∀ j < i, (f.payload.getD (3 * j + 3) 0).toNat ≤ 1) →
      exec c s = .next
        ((s.beginTaking rest).replied f { status := .badValue, rest := [BitVec.ofNat 8 (3 * i + 3)] }))

/-- PING, GET_STATUS, GET_CHANNEL and GET_SCAN reply and change nothing else. The GET_CHANNEL reply of a sound state carries
the live state field by field at the offsets 45 to 73, absent fields as zero and signed ones in two's complement; the
GET_SCAN reply carries the entries and the two periods (R19, R59, R181, R182, R185, R187). -/
def Obligations.ReadRequestsOnlyReply : Prop :=
  (∀ (f : Frame) (rest : List Frame) (s : State),
    let u := s.beginTaking rest
    (s.TakesNew .ping f rest → f.payload.length ≤ 16 →
      exec .ping s = .next
        (u.replied f { status := .ok, rest := [0x71#8, 1#8, 24#8, 4#8, 2#8] ++ f.payload })) ∧
    (s.TakesNew .getStatus f rest → f.payload = [] →
      exec .getStatus s = .next (u.replied f { status := .ok, rest := u.statusBytes })) ∧
    (∀ n : ChanId, s.TakesNew .getChannel f rest → f.payload = [BitVec.ofNat 8 n.val] →
      exec .getChannel s = .next
        (u.replied f
          { status := .ok, rest := configBytes n s.channels[n].config ++ liveBytes s.channels[n].live })) ∧
    (∀ b : Byte, s.TakesNew .getChannel f rest → f.payload = [b] → 24 ≤ b.toNat →
      exec .getChannel s = .next (u.replied f { status := .badValue, rest := [0#8] })) ∧
    (s.TakesNew .getScan f rest → f.payload = [] →
      exec .getScan s = .next (u.replied f { status := .ok, rest := scanBytes u.seq }))) ∧
  (∀ (s : State) (n : ChanId), s.Sound →
    let l := s.channels[n].live
    let p := codeByte Status.ok.code :: (configBytes n s.channels[n].config ++ liveBytes l)
    let signed (offset : Nat) : Int := (BitVec.ofNat 32 (fieldAt p offset 4)).toInt
    p.length = 74 ∧ fieldAt p 45 1 = l.state.code ∧
      fieldAt p 46 1 =
        l.baseline.isSome.toNat + 2 * l.lastRaw.isSome.toNat + 4 * l.lastSignal.isSome.toNat +
          8 * l.candidate.isSome.toNat + 16 * l.lastReported.isSome.toNat ∧
      fieldAt p 47 3 = l.baseline.getD 0 ∧ fieldAt p 50 4 = l.settleSum ∧ fieldAt p 54 1 = l.settleSamples ∧
      fieldAt p 55 3 = l.lastRaw.getD 0 ∧ signed 58 = l.lastSignal.getD 0 ∧ fieldAt p 62 1 = l.debounce ∧
      fieldAt p 63 1 =
        (match l.candidate with | none => 0 | some .inside => 9 | some .above => 10 | some .below => 11) ∧
      fieldAt p 64 1 = l.suppressed.toNat ∧ fieldAt p 65 2 = l.activeResults ∧ fieldAt p 67 1 = l.driftCount ∧
      fieldAt p 68 1 = l.reverseCount ∧ fieldAt p 69 1 = l.faultCount ∧ signed 70 = l.lastReported.getD 0) ∧
  (∀ q : Sequencer,
    let p := codeByte Status.ok.code :: scanBytes q
    let n := q.list.length
    p.length = 6 + 3 * n ∧ fieldAt p 1 1 = n % 256 ∧
      (∀ i e, q.list[i]? = some e →
        fieldAt p (2 + 3 * i) 1 = e.channel.val ∧ fieldAt p (3 + 3 * i) 1 = e.divider % 256 ∧
          fieldAt p (4 + 3 * i) 1 = e.watch.toNat) ∧
      fieldAt p (2 + 3 * n) 2 = q.runPeriod % 65536 ∧ fieldAt p (4 + 3 * n) 2 = q.watchPeriod % 65536)

/-- An undefined kind is refused with UNKNOWN and FFh; RESET_PART is answered OK and enters RESETTING, in which no request
is taken (R177, R179, R183); that a request command then changes nothing is the model's choice (log 1). -/
def Obligations.UndefinedKindAndResetPart : Prop :=
  ∀ (f : Frame) (rest : List Frame) (s : State),
    (s.CanTake f rest → s.handler.cached f = none → (f.kind.toNat = 0 ∨ 14 < f.kind.toNat) →
      exec .undefinedRequestKind s = .next
        ((s.beginTaking rest).replied f { status := .unknown, rest := [0xFF#8] })) ∧
    (s.TakesNew .resetPart f rest → f.payload = [] →
      let u := (s.beginTaking rest).replied f { status := .ok, rest := [] }
      exec .resetPart s = .next { u with handler := { u.handler with resetting := true } }) ∧
    (s.handler.resetting = true → ∀ c : Instr, (requestKindOf c ≠ none ∨ c = .undefinedRequestKind) →
      exec c s = .next s)

/-- The status picture of a sound state, field by field at the offsets of the GET_STATUS reply, with the codes of the code
tables; the picture of a request that has been taken shows neither WATCH nor STALLED (R78, R182, R187, R188). -/
def Obligations.StatusPicture : Prop :=
  ∀ s : State, s.Sound →
    let p := codeByte Status.ok.code :: s.statusBytes
    p.length = 27 + 4 * s.ops.table.length ∧
    fieldAt p 1 1 = (match s.seq.mode with | .stopped => 0 | .running => 1 | .single => 2 | .watch => 3) ∧
    fieldAt p 2 2 = s.seq.round ∧ fieldAt p 4 1 = s.seq.inRound.toNat ∧
    fieldAt p 5 2 = s.seq.overruns ∧ fieldAt p 7 1 = s.queue.countP Job.isScan ∧
    fieldAt p 8 1 = s.queue.countP Job.isOp ∧
    fieldAt p 9 1 = s.res.running.length ∧
    fieldAt p 10 1 = (s.res.running.filter fun x => x.2.job.snapshot.source.isOsc).length ∧
    fieldAt p 11 1 = s.notices.records.length ∧ fieldAt p 12 1 = s.delivery.inFlight.length ∧
    fieldAt p 13 2 = s.notices.tally.results ∧ fieldAt p 15 2 = s.notices.tally.states ∧
    fieldAt p 17 2 = s.notices.tally.others ∧
    fieldAt p 19 1 = (match s.delivery.state with | .opened => 0 | .resend => 1 | .stalled => 2 | .hold => 3) ∧
    fieldAt p 20 1 = s.delivery.retries ∧ fieldAt p 21 2 = s.line.discards ∧
    fieldAt p 23 1 = s.line.lastDiscard.isSome.toNat ∧
    fieldAt p 24 1 =
      (match s.line.lastDiscard with
        | none => 0 | some .crc => 1 | some .length => 2 | some .gap => 3 | some .queueFull => 4
        | some .foreign => 5) ∧
    fieldAt p 25 1 = (match s.handler.lastReset with | .power => 1 | .pin => 2 | .soft => 3) ∧
    fieldAt p 26 1 = s.ops.table.length ∧
    (∀ i o, s.ops.table[i]? = some o →
      fieldAt p (27 + 4 * i) 1 = o.opId ∧
      fieldAt p (28 + 4 * i) 1 = (match o.kind with | .calibrate => 1 | .measure => 2) ∧
      fieldAt p (29 + 4 * i) 1 = o.started.toNat ∧ fieldAt p (30 + 4 * i) 1 = o.current) ∧
    (∀ rest t, t = s.beginTaking rest →
      fieldAt (codeByte 0 :: t.statusBytes) 1 1 ≠ 3 ∧ fieldAt (codeByte 0 :: t.statusBytes) 19 1 ≠ 2)

/-! ## Requests with effects -/

/-- SET_LINK: the first field outside its range refuses; otherwise the four parameters are replaced whole, and HOLD is
entered, or left for a resend pass or for OPEN (R172, R173). -/
def Obligations.SetLinkSetsParameters : Prop :=
  ∀ (f : Frame) (rest : List Frame) (s : State) (w a0 a1 r n : Byte), s.TakesNew .setLink f rest →
    f.payload = [w, a0, a1, r, n] →
    let u := s.beginTaking rest
    let refused (offset : Byte) : State := u.replied f { status := .badValue, rest := [offset] }
    let timeout := a0.toNat + 256 * a1.toNat
    (w.toNat < 1 ∨ 4 < w.toNat → exec .setLink s = .next (refused 0#8)) ∧
    (1 ≤ w.toNat → w.toNat ≤ 4 → timeout < 5 ∨ 2000 < timeout → exec .setLink s = .next (refused 1#8)) ∧
    (1 ≤ w.toNat → w.toNat ≤ 4 → 5 ≤ timeout → timeout ≤ 2000 → 7 < r.toNat →
      exec .setLink s = .next (refused 3#8)) ∧
    (1 ≤ w.toNat → w.toNat ≤ 4 → 5 ≤ timeout → timeout ≤ 2000 → r.toNat ≤ 7 → 1 < n.toNat →
      exec .setLink s = .next (refused 4#8)) ∧
    (1 ≤ w.toNat → w.toNat ≤ 4 → 5 ≤ timeout → timeout ≤ 2000 → r.toNat ≤ 7 → n.toNat ≤ 1 →
      let d : Delivery :=
        { u.delivery with
          params := { window := w.toNat, ackTimeout := timeout, retryLimit := r.toNat, notices := n == 1#8 } }
      exec .setLink s = .next
        (State.replied f { status := .ok, rest := [] }
          { u with
            delivery :=
              if n = 0#8 ∧ (d.state = .opened ∨ d.state = .resend) then
                { d with state := .hold, passSet := [], ackTimer := none }
              else if n = 1#8 ∧ d.state = .hold then
                { d with
                  state := if d.inFlight = [] then .opened else .resend
                  passSet := d.inFlight, ackTimer := none, retries := 0 }
              else d }))

/-- A SET_CHANNEL payload and a configuration are two spellings of one thing: a valid configuration is read back whole
from its 44 bytes and passes the checks, and a payload that passes the checks is the spelling of what is read from it
(R13, R14, R186). Each field stands at the offset of the layout, low byte first, its names spelled by their codes
(R185, R186, R188). -/
def Obligations.ConfigPayloadRoundTrip : Prop :=
  (∀ (n : ChanId) (c : ChannelConfig), c.valid = true →
    (configBytes n c).length = 44 ∧ channelAt (configBytes n c) 0 = n ∧ configOf (configBytes n c) = c ∧
    ∀ s : State, s.channels[n].live.state ≠ .calibrating → s.refuseSetChannel (configBytes n c) = none) ∧
  (∀ (p : List Byte) (s : State), p.length = 44 → s.refuseSetChannel p = none →
    configBytes (channelAt p 0) (configOf p) = p ∧ (configOf p).valid = true) ∧
  (∀ (n : ChanId) (c : ChannelConfig), c.valid = true →
    let p := configBytes n c
    let m := c.measuring
    let d := c.delta
    fieldAt p 0 1 = n.val ∧ fieldAt p 1 1 = c.enable.toNat ∧ fieldAt p 2 1 = m.pin.val ∧
      fieldAt p 3 1 = (match m.source with | .oscCap => 0 | .oscRes => 1 | .ext => 2) ∧
      fieldAt p 4 1 = (match m.mode with | .gated => 0 | .period => 1 | .interval => 2) ∧
      fieldAt p 5 1 = m.prescale ∧ fieldAt p 6 2 = m.gateLength ∧ fieldAt p 8 2 = m.cycleCount ∧
      fieldAt p 10 1 = (match m.edgePair with | .riseRise => 0 | .fallFall => 1 | .riseFall => 2 | .fallRise => 3) ∧
      fieldAt p 11 2 = m.timeout ∧ fieldAt p 13 1 = m.settleCycles ∧ fieldAt p 14 1 = m.driveLevel.val ∧
      fieldAt p 15 1 = (match c.detector with | .plain => 0 | .delta => 1 | .window => 2) ∧
      fieldAt p 16 1 = (match d.direction with | .falling => 0 | .rising => 1) ∧
      fieldAt p 17 2 = d.onThreshold ∧ fieldAt p 19 2 = d.offThreshold ∧ fieldAt p 21 3 = c.window.lowLimit ∧
      fieldAt p 24 3 = c.window.highLimit ∧ fieldAt p 27 3 = c.window.hysteresis ∧ fieldAt p 30 1 = c.debounceOn ∧
      fieldAt p 31 1 = c.debounceOff ∧ fieldAt p 32 1 = d.settleCount ∧ fieldAt p 33 1 = d.driftStep ∧
      fieldAt p 34 1 = d.driftInterval ∧ fieldAt p 35 1 = d.reverseLimit ∧ fieldAt p 36 2 = d.holdLimit ∧
      fieldAt p 38 1 = c.faultLimit ∧ fieldAt p 39 1 = (match d.group with | none => 0 | some g => g.val + 1) ∧
      fieldAt p 40 1 = c.events.toNat ∧
      fieldAt p 41 1 = (match c.resultMode with | .never => 0 | .every => 1 | .change => 2) ∧
      fieldAt p 42 2 = c.changeStep)

/-- SET_CHANNEL refuses a channel above 23 at offset 0, then a calibrating channel with WRONG_STATE, then the first field
out of the range that the table of the fields gives it, then the first inconsistency (R2 to R6, R13, R14, R186). -/
def Obligations.SetChannelRefusals : Prop :=
  ∀ (f : Frame) (rest : List Frame) (s : State), s.TakesNew .setChannel f rest → f.payload.length = 44 →
    let u := s.beginTaking rest
    let p := f.payload
    let refused (offset : Nat) : State := u.replied f { status := .badValue, rest := [BitVec.ofNat 8 offset] }
    (24 ≤ fieldAt p 0 1 → exec .setChannel s = .next (refused 0)) ∧
    (∀ n : ChanId, fieldAt p 0 1 = n.val →
      (s.channels[n].live.state = .calibrating →
        exec .setChannel s = .next (u.replied f { status := .wrongState, rest := [0xFF#8] })) ∧
      (s.channels[n].live.state ≠ .calibrating →
        (∀ pre x post, setChannelFields = pre ++ x :: post → (∀ y ∈ pre, y.holds p = true) → x.holds p = false →
          exec .setChannel s = .next (refused x.offset)) ∧
        ((∀ x ∈ setChannelFields, x.holds p = true) →
          (fieldAt p 4 1 = 2 → fieldAt p 3 1 ≠ 2 → exec .setChannel s = .next (refused 4)) ∧
          ((fieldAt p 4 1 = 2 → fieldAt p 3 1 = 2) → fieldAt p 17 2 ≤ fieldAt p 19 2 →
            exec .setChannel s = .next (refused 19)) ∧
          ((fieldAt p 4 1 = 2 → fieldAt p 3 1 = 2) → fieldAt p 19 2 < fieldAt p 17 2 →
            fieldAt p 24 3 < fieldAt p 21 3 → exec .setChannel s = .next (refused 21)) ∧
          ((fieldAt p 4 1 = 2 → fieldAt p 3 1 = 2) → fieldAt p 19 2 < fieldAt p 17 2 →
            fieldAt p 21 3 ≤ fieldAt p 24 3 → fieldAt p 24 3 - fieldAt p 21 3 < fieldAt p 27 3 →
            exec .setChannel s = .next (refused 27)) ∧
          ((fieldAt p 4 1 = 2 → fieldAt p 3 1 = 2) → fieldAt p 19 2 < fieldAt p 17 2 →
            fieldAt p 21 3 ≤ fieldAt p 24 3 → fieldAt p 27 3 ≤ fieldAt p 24 3 - fieldAt p 21 3 →
            fieldAt p 39 1 ≠ 0 → fieldAt p 15 1 ≠ 1 → exec .setChannel s = .next (refused 39)))))

/-- An accepted SET_CHANNEL writes the configuration whole and clears the live state to the initial state; no other channel
changes; the channel's jobs that remain carry the new snapshot; its lock is freed and no other lock changes; a lost
detection leaves a CONFIG record where the queue has room (R12, R15 to R18). Its PENDING entries in MEASURE operations
become CANCELLED with their tallies as they stood; an operation whose current entry was cancelled moves on to the next
PENDING entry or, where none is left, leaves the table with OP_DONE COMPLETE; no other entry and no CALIBRATE operation
changes (R16, R133, R137). In what order several such OP_DONE records stand is the model's choice (log 27), not said here. -/
def Obligations.SetChannelReconfigures : Prop :=
  ∀ (f : Frame) (rest : List Frame) (s : State) (n : ChanId) (k : ChannelConfig), s.Sound →
    s.TakesNew .setChannel f rest → k.valid = true → f.payload = configBytes n k →
    s.channels[n].live.state ≠ .calibrating →
    ∃ t, exec .setChannel s = .next t ∧ s.Answered f rest { status := .ok, rest := [] } t ∧
      t.channels[n].config = k ∧
      t.channels[n].live =
        { state :=
            if k.enable then
              match k.detector with | .delta => .settling | .window => .unknown | .plain => .live
            else .off } ∧
      (∀ m : ChanId, m ≠ n → t.channels[m] = s.channels[m]) ∧
      (∀ j ∈ t.jobs, j.channel = n → j.snapshot = k.measuring) ∧
      (∀ o ∈ t.ops.table, ∀ e ∈ o.entries, e.channel = n → e.outcome ≠ .pending) ∧
      (t.ops.table.map Operation.opId).Sublist (s.ops.table.map Operation.opId) ∧ t.ops.nextId = s.ops.nextId ∧
      (∀ o ∈ s.ops.table,
        let closed := o.entries.map fun e =>
          if e.outcome = .pending ∧ e.channel = n then { e with outcome := .cancelled } else e
        let later (i : Nat) : Prop := o.current < i ∧ ∃ e, closed[i]? = some e ∧ e.outcome = .pending
        let cancelled : Prop := ∃ e, o.entries[o.current]? = some e ∧ e.outcome = .pending ∧ e.channel = n
        let stands (x : Operation) : Prop :=
          ∃ p ∈ t.ops.table, p = { x with started := p.started, outstanding := p.outstanding }
        (o.kind = .calibrate → stands o) ∧
        (o.kind = .measure → ¬ cancelled → stands { o with entries := closed }) ∧
        (o.kind = .measure → cancelled →
          (∀ i, later i → (∀ k < i, ¬ later k) → stands { o with entries := closed, current := i }) ∧
          ((∀ i, ¬ later i) →
            (∀ p ∈ t.ops.table, p.opId ≠ o.opId) ∧
              (s.notices.records.length ≤ 16 →
                Record.opDone
                    { opId := o.opId, kind := .measure, aborted := false
                      entries := closed.map fun x =>
                        { channel := x.channel, outcome := x.outcome, validCount := x.valid
                          first := if x.valid = 0 then none else some (x.sum / x.valid)
                          minMax := if x.valid = 0 then none else x.minMax } } ∈ t.notices.records)))) ∧
      (∀ g : LockId, t.locks[g] = if s.locks[g] = some n then none else s.locks[g]) ∧
      (s.channels[n].live.state ∈ [ChanState.active, .releasing, .above, .below] →
        s.channels[n].config.events = true → s.notices.records.length ≤ 16 →
        Record.state
            { channel := n, round := none, previous := s.channels[n].live.state
              next := t.channels[n].live.state, reason := .config, value := none } ∈ t.notices.records)

/-- SET_SCAN: refused with WRONG_STATE outside STOPPED; in STOPPED the entries replace the scan list whole, and more than
32, a channel above 23 or a divider outside 1 to 16 is refused at its offset, the first one first (R57, R58, R186). -/
def Obligations.SetScanReplacesList : Prop :=
  ∀ (f : Frame) (rest : List Frame) (s : State) (es : List (Byte × Byte × Bool)), s.TakesNew .setScan f rest →
    es.length ≤ 42 →
    f.payload = BitVec.ofNat 8 es.length :: (es.map fun e => [e.1, e.2.1, if e.2.2 then 1#8 else 0#8]).flatten →
    let u := s.beginTaking rest
    let fits (e : Byte × Byte × Bool) : Prop := e.1.toNat ≤ 23 ∧ 1 ≤ e.2.1.toNat ∧ e.2.1.toNat ≤ 16
    (s.seq.mode ≠ .stopped →
      exec .setScan s = .next (u.replied f { status := .wrongState, rest := [0xFF#8] })) ∧
    (s.seq.mode = .stopped → 32 < es.length →
      exec .setScan s = .next (u.replied f { status := .badValue, rest := [0#8] })) ∧
    (s.seq.mode = .stopped → es.length ≤ 32 → ∀ pre e post, es = pre ++ e :: post → (∀ x ∈ pre, fits x) → ¬ fits e →
      exec .setScan s = .next
        (u.replied f
          { status := .badValue
            rest := [BitVec.ofNat 8 (3 * pre.length + if e.1.toNat ≤ 23 then 2 else 1)] })) ∧
    (s.seq.mode = .stopped → es.length ≤ 32 → (∀ e ∈ es, fits e) →
      ∃ list : List ScanEntry,
        list.map (fun x => (x.channel.val, x.divider, x.watch)) = es.map (fun e => (e.1.toNat, e.2.1.toNat, e.2.2)) ∧
        exec .setScan s = .next
          (State.replied f { status := .ok, rest := [] } { u with seq := { u.seq with list := list } }))

/-- The refusals of SCAN_START, in their order: a mode code that names none, a period that does not fit the mode, an empty
list, and for WATCH a list without a watch entry and an ops table that is not empty (R62). -/
def Obligations.ScanStartRefusals : Prop :=
  ∀ (f : Frame) (rest : List Frame) (s : State) (m p0 p1 : Byte), s.TakesNew .scanStart f rest →
    f.payload = [m, p0, p1] →
    let u := s.beginTaking rest
    let period := p0.toNat + 256 * p1.toNat
    let named : Prop := 1 ≤ m.toNat ∧ m.toNat ≤ 3
    let fits : Prop := (m = 1#8 → 1 ≤ period) ∧ (m = 2#8 → period = 0) ∧ (m = 3#8 → 10 ≤ period)
    let waits : State := u.replied f { status := .wrongState, rest := [0xFF#8] }
    (¬ named → exec .scanStart s = .next (u.replied f { status := .badValue, rest := [0#8] })) ∧
    (named → ¬ fits → exec .scanStart s = .next (u.replied f { status := .badValue, rest := [1#8] })) ∧
    (named → fits → s.seq.list = [] → exec .scanStart s = .next waits) ∧
    (named → fits → m = 3#8 → (∀ e ∈ s.seq.list, e.watch = false) → exec .scanStart s = .next waits) ∧
    (named → fits → m = 3#8 → s.ops.table ≠ [] → exec .scanStart s = .next waits)

/-- An accepted SCAN_START begins a run in the mode named: the next round number, the round timer from zero with the
period for RUNNING and WATCH and stopped for SINGLE, the period stored, the flags of the run cleared, the overrun count
kept, and no scan job of an earlier round left. The first round is in progress, with its due and eligible entries issued
as far as slots allow, exactly when it has such an entry; a SINGLE round without one is over at once, with SCAN DONE
(R61 to R63, R66, R68, R69, R71, R72). The eligible entries of a round stand in the model's own field (log 10). -/
def Obligations.ScanStartBeginsRun : Prop :=
  ∀ (f : Frame) (rest : List Frame) (s : State) (m p0 p1 : Byte), s.TakesNew .scanStart f rest →
    f.payload = [m, p0, p1] → s.seq.list ≠ [] →
    let u := s.beginTaking rest
    let period := p0.toNat + 256 * p1.toNat
    let begun (t : State) : Prop :=
      exec .scanStart s = .next t ∧ s.Answered f rest { status := .ok, rest := [] } t ∧
        t.channels = s.channels ∧ t.locks = s.locks ∧ t.seq.list = s.seq.list ∧
        t.seq.round = (u.seq.round + 1) % 65536 ∧ t.seq.overruns = s.seq.overruns ∧ t.seq.heldStart = false ∧
        t.seq.overrunReported = false ∧ t.ScanJobsOfRound
    (m = 1#8 → 1 ≤ period →
      ∃ t, begun t ∧ s.BeganRound .running t ∧ t.seq.mode = .running ∧ t.seq.timer = some { period := period, elapsed := 0 } ∧
        t.seq.runPeriod = period ∧ t.seq.watchPeriod = s.seq.watchPeriod ∧ t.notices = u.notices) ∧
    (m = 2#8 → period = 0 →
      ∃ t, begun t ∧ s.BeganRound .single t ∧ t.seq.timer = none ∧ t.seq.runPeriod = s.seq.runPeriod ∧
        t.seq.watchPeriod = s.seq.watchPeriod ∧
        ((∃ i, s.DueAndEligible .single t.seq.round i) →
          t.seq.mode = .single ∧ t.seq.inRound = true ∧ t.notices = u.notices) ∧
        ((¬ ∃ i, s.DueAndEligible .single t.seq.round i) →
          t.seq.mode = .stopped ∧ t.seq.inRound = false ∧
            t.notices = (u.notices.arrive (.scan .done t.seq.round)).1)) ∧
    (m = 3#8 → 10 ≤ period → s.ops.table = [] → (∃ e ∈ s.seq.list, e.watch = true) →
      ∃ t, begun t ∧ s.BeganRound .watch t ∧ t.seq.mode = .watch ∧ t.seq.timer = some { period := period, elapsed := 0 } ∧
        t.seq.watchPeriod = period ∧ t.seq.runPeriod = s.seq.runPeriod ∧ t.notices = u.notices)

/-- SCAN_STOP leaves the sequencer in STOPPED with no round, no timer and no scan job; it creates no record and keeps the
list, the round number, the periods and the overrun count (R64, R65). That the model's own field `eligible` is empty then
is log 10. -/
def Obligations.ScanStopStops : Prop :=
  ∀ (f : Frame) (rest : List Frame) (s : State), s.TakesNew .scanStop f rest → f.payload = [] →
    let u := s.beginTaking rest
    ∃ t, exec .scanStop s = .next t ∧ s.Answered f rest { status := .ok, rest := [] } t ∧
      t.seq =
        { u.seq with
          mode := .stopped, inRound := false, timer := none, heldStart := false, issuePos := 0, outstanding := []
          eligible := [] } ∧
      (∀ j ∈ t.jobs, j.isScan = false) ∧ t.notices = u.notices ∧ t.channels = s.channels ∧ t.locks = s.locks ∧
      t.ops.table.map Operation.opId = s.ops.table.map Operation.opId ∧ t.ops.nextId = s.ops.nextId

/-- The refusals of CALIBRATE and MEASURE, in their order: the samples, the entry count, the first channel above 23 or
named before, the first channel whose state does not admit the operation, a full table (R125). -/
def Obligations.OperationRefusals : Prop :=
  ∀ (k : OpKind) (f : Frame) (rest : List Frame) (s : State) (n : Byte) (cs : List Byte),
    let c : Instr := match k with | .calibrate => .calibrate | .measure => .measure
    let kind : RequestKind := match k with | .calibrate => .calibrate | .measure => .measure
    let most : Nat := match k with | .calibrate => 64 | .measure => 16
    s.TakesNew kind f rest → cs.length < 256 → f.payload = n :: BitVec.ofNat 8 cs.length :: cs →
    let u := s.beginTaking rest
    let counts : Prop := 1 ≤ n.toNat ∧ n.toNat ≤ most ∧ 1 ≤ cs.length ∧ cs.length ≤ 8
    let admits (ch : ChanId) : Prop :=
      s.channels[ch].live.state ≠ .off ∧
        (k = .calibrate → s.channels[ch].config.detector = .delta ∧ s.channels[ch].live.state ≠ .calibrating)
    (n.toNat < 1 ∨ most < n.toNat →
      exec c s = .next (u.replied f { status := .badValue, rest := [0#8] })) ∧
    (1 ≤ n.toNat → n.toNat ≤ most → cs.length < 1 ∨ 8 < cs.length →
      exec c s = .next (u.replied f { status := .badValue, rest := [1#8] })) ∧
    (counts → ∀ pre x post, cs = pre ++ x :: post → pre.Nodup → (∀ y ∈ pre, y.toNat ≤ 23) →
      (23 < x.toNat ∨ x ∈ pre) →
      exec c s = .next (u.replied f { status := .badValue, rest := [BitVec.ofNat 8 (2 + pre.length)] })) ∧
    (counts → cs.Nodup → ∀ chans : List ChanId, cs = chans.map (fun ch => BitVec.ofNat 8 ch.val) →
      (∀ pre ch post, chans = pre ++ ch :: post → (∀ x ∈ pre, admits x) → ¬ admits ch →
        exec c s = .next (u.replied f { status := .wrongState, rest := [BitVec.ofNat 8 (2 + pre.length)] })) ∧
      ((∀ ch ∈ chans, admits ch) → 4 ≤ s.ops.table.length →
        exec c s = .next (u.replied f { status := .noResource, rest := [0xFF#8] })))

/-- An accepted CALIBRATE enters its operation as the youngest of the table under the id taken, answers ACCEPTED with that
id, puts exactly its channels into CALIBRATING with the live state cleared, frees their locks, and leaves no scan job of
them (R96, R124, R126, R127). -/
def Obligations.CalibrateStarts : Prop :=
  ∀ (f : Frame) (rest : List Frame) (s : State) (n : Byte) (cs : List ChanId), s.Sound →
    s.TakesNew .calibrate f rest → 1 ≤ n.toNat → n.toNat ≤ 64 → cs ≠ [] → cs.length ≤ 8 → cs.Nodup →
    (∀ c ∈ cs, s.channels[c].config.detector = .delta ∧ s.channels[c].live.state ≠ .off ∧
      s.channels[c].live.state ≠ .calibrating) →
    s.ops.table.length < 4 →
    f.payload = n :: BitVec.ofNat 8 cs.length :: cs.map (fun c => BitVec.ofNat 8 c.val) →
    ∃ t, exec .calibrate s = .next t ∧
      s.Answered f rest { status := .accepted, rest := [BitVec.ofNat 8 s.ops.takenId] } t ∧
      t.ops.table.map Operation.opId = s.ops.table.map Operation.opId ++ [s.ops.takenId] ∧
      (∃ o, t.ops.table.getLast? = some o ∧ o.kind = .calibrate ∧ o.samples = n.toNat ∧ o.current = 0 ∧
        o.entries = cs.map OpEntry.fresh) ∧
      (∀ c : ChanId, t.channels[c].config = s.channels[c].config) ∧
      (∀ c ∈ cs, t.channels[c].live = { state := .calibrating }) ∧
      (∀ c : ChanId, c ∉ cs → t.channels[c].live = s.channels[c].live) ∧
      (∀ g : LockId, t.locks[g] = if ∃ c ∈ cs, s.locks[g] = some c then none else s.locks[g]) ∧
      (∀ j ∈ t.jobs, j.channel ∈ cs → j.isScan = false) ∧
      (∀ c ∈ cs, s.channels[c].config.events = true → s.notices.records.length ≤ 16 →
        Record.state
            { channel := c, round := none, previous := s.channels[c].live.state, next := .calibrating
              reason := .calibrating, value := none } ∈ t.notices.records)

/-- An accepted MEASURE enters its operation as the youngest of the table under the id taken and answers ACCEPTED with that
id; no channel, lock or record changes (R124, R126). -/
def Obligations.MeasureStarts : Prop :=
  ∀ (f : Frame) (rest : List Frame) (s : State) (n : Byte) (cs : List ChanId), s.Sound →
    s.TakesNew .measure f rest → 1 ≤ n.toNat → n.toNat ≤ 16 → cs ≠ [] → cs.length ≤ 8 → cs.Nodup →
    (∀ c ∈ cs, s.channels[c].live.state ≠ .off) → s.ops.table.length < 4 →
    f.payload = n :: BitVec.ofNat 8 cs.length :: cs.map (fun c => BitVec.ofNat 8 c.val) →
    ∃ t, exec .measure s = .next t ∧
      s.Answered f rest { status := .accepted, rest := [BitVec.ofNat 8 s.ops.takenId] } t ∧
      t.ops.table.map Operation.opId = s.ops.table.map Operation.opId ++ [s.ops.takenId] ∧
      (∃ o, t.ops.table.getLast? = some o ∧ o.kind = .measure ∧ o.samples = n.toNat ∧ o.current = 0 ∧
        o.entries = cs.map OpEntry.fresh) ∧
      t.channels = s.channels ∧ t.locks = s.locks ∧ t.notices = (s.beginTaking rest).notices ∧
      t.seq.mode = (s.beginTaking rest).seq.mode ∧ t.seq.round = (s.beginTaking rest).seq.round

/-- ABORT_OP: an id that no operation holds is refused at offset 0. Otherwise the operation leaves the table with its
job, the others stay in order, the channels still calibrating for it go to SETTLING, each with events ON with a
CAL_ABORTED record, and one OP_DONE record says ABORTED, where the queue has room (R99, R134, R135). -/
def Obligations.AbortOpEnds : Prop :=
  ∀ (f : Frame) (rest : List Frame) (s : State) (b : Byte), s.Sound → s.TakesNew .abortOp f rest → f.payload = [b] →
    ((∀ o ∈ s.ops.table, o.opId ≠ b.toNat) →
      exec .abortOp s = .next
        ((s.beginTaking rest).replied f { status := .badValue, rest := [0#8] })) ∧
    (∀ o ∈ s.ops.table, o.opId = b.toNat →
      ∃ t, exec .abortOp s = .next t ∧ s.Answered f rest { status := .ok, rest := [] } t ∧
        t.ops.table.map Operation.opId = (s.ops.table.map Operation.opId).filter (fun id => id != b.toNat) ∧
        t.ops.nextId = s.ops.nextId ∧ t.locks = s.locks ∧
        (∀ j ∈ t.jobs, ∀ e, j.origin ≠ .op b.toNat e) ∧
        (∀ c : ChanId, t.channels[c] =
          if o.kind = .calibrate ∧ ∃ e ∈ o.entries, e.channel = c ∧ e.outcome = .pending then
            { s.channels[c] with
              live := { s.channels[c].live with state := .settling, settleSum := 0, settleSamples := 0 } }
          else s.channels[c]) ∧
        (s.notices.records.length ≤ 16 → o.kind = .calibrate →
          ∀ e ∈ o.entries, e.outcome = .pending → s.channels[e.channel].config.events = true →
            Record.state
                { channel := e.channel, round := none, previous := .calibrating, next := .settling
                  reason := .calAborted, value := none } ∈ t.notices.records) ∧
        (s.notices.records.length ≤ 16 →
          Record.opDone
              { opId := o.opId, kind := o.kind, aborted := true
                entries := o.entries.map fun e =>
                  OpEntry.done o.kind o.samples
                    (if e.outcome = .pending then { e with outcome := .aborted } else e) } ∈ t.notices.records))

/-- FLUSH_NOTICES by scope: the queue, the in-flight set or both emptied, the tally cleared, the next sequence number
kept; a scope that names none is refused. A pass that the flush empties ends at once when no frame is on the line, by the
model's reading of the next frame boundary (log 11) (R151, R152, R167, R170). -/
def Obligations.FlushDiscards : Prop :=
  ∀ (f : Frame) (rest : List Frame) (s : State) (b : Byte), s.TakesNew .flushNotices f rest → f.payload = [b] →
    let u := s.beginTaking rest
    let ok : Reply := { status := .ok, rest := [] }
    let cleared : Tally := { results := 0, states := 0, others := 0 }
    let dropped : Delivery :=
      { u.delivery with
        inFlight := [], passSet := [], ackTimer := none, retries := 0
        state := if u.delivery.state = .resend ∧ s.line.tx = none then .opened else u.delivery.state }
    (b = 1#8 → exec .flushNotices s = .next (State.replied f ok { u with notices := { records := [], tally := cleared } })) ∧
    (b = 2#8 → exec .flushNotices s = .next
      (State.replied f ok
        { u with notices := { records := u.notices.records, tally := cleared }, delivery := dropped })) ∧
    (b = 3#8 → exec .flushNotices s = .next
      (State.replied f ok { u with notices := { records := [], tally := cleared }, delivery := dropped })) ∧
    (b.toNat = 0 ∨ 3 < b.toNat → exec .flushNotices s = .next (u.replied f { status := .badValue, rest := [0#8] }))

/-! ## Operations -/

/-- The op id: 1 follows every reset; an accepted operation takes the first id, counting up from the next op id with 255
followed by 1, that no operation of the table holds, found within five steps, and the next op id becomes the one after
it; a refused request and one answered from the cache leave the next op id (R124). -/
def Obligations.OpIdFirstFree : Prop :=
  (∀ (k : ResetKind) (speed : LineSpeed) (c : Instr) (s : State), s.ResetBy k speed c →
    ∃ t, exec c s = .next t ∧ t.ops = { table := [], nextId := 1 } ∧ t.ops.takenId = 1) ∧
  (∀ e : OpEngine, e.Fits →
    1 ≤ e.takenId ∧ e.takenId ≤ 255 ∧ (∀ o ∈ e.table, o.opId ≠ e.takenId) ∧
    ∃ i < 5, e.takenId = (fun n => if n = 255 then 1 else n + 1)^[i] e.nextId ∧
      ∀ j < i, ∃ o ∈ e.table, o.opId = (fun n => if n = 255 then 1 else n + 1)^[j] e.nextId) ∧
  (∀ (c : Instr) (k : RequestKind) (f : Frame) (rest : List Frame) (s : State),
    requestKindOf c = some k → s.TakesNew k f rest →
    ∃ t r, exec c s = .next t ∧ s.handler.replies ++ [replyFrame f r] = t.handler.replies ∧
      (r.status = .accepted →
        r.rest = [BitVec.ofNat 8 s.ops.takenId] ∧
          t.ops.nextId = if s.ops.takenId = 255 then 1 else s.ops.takenId + 1) ∧
      (r.status ≠ .accepted → t.ops.nextId = s.ops.nextId)) ∧
  (∀ (c : Instr) (k : RequestKind) (f reply : Frame) (rest : List Frame) (s : State),
    requestKindOf c = some k → s.CanTake f rest → f.kind = k.code → s.handler.cached f = some reply →
    ∃ t, exec c s = .next t ∧ t.ops.nextId = s.ops.nextId)

/-- A MEASURE sample: the tallies of the current entry, its outcome when the samples are complete, the end of the job; the
tracker takes nothing of it, and no STATE or RESULT record is made (R131). -/
def Obligations.MeasureSampleCounted : Prop :=
  ∀ (s : State) (o : Operation) (e : OpEntry) (r : Reading), s.ops.Fits → o ∈ s.ops.table → o.fits = true →
    o.kind = .measure → o.outstanding = true → o.entries[o.current]? = some e → e.outcome = .pending →
    let t := s.takeSample o.opId o.current r
    let e1 : OpEntry :=
      match r with
      | .value raw =>
        { e with
          taken := e.taken + 1, valid := e.valid + 1, sum := e.sum + raw
          minMax := match e.minMax with | none => some (raw, raw) | some (lo, hi) => some (min lo raw, max hi raw) }
      | .noSignal | .overrange => { e with taken := e.taken + 1 }
    let e2 : OpEntry :=
      if e1.taken = o.samples then { e1 with outcome := if e1.valid = 0 then .noSignal else .complete } else e1
    let entries := o.entries.set o.current e2
    t.channels = s.channels ∧ t.locks = s.locks ∧ t.seq = s.seq ∧ t.res = s.res ∧ t.queue = s.queue ∧
      (∀ raw, r = .value raw → raw ≤ 16777215 → e2.sum ≤ 268435440) ∧
      (e1.taken ≠ o.samples →
        t.notices = s.notices ∧
          t.ops.table = s.ops.table.map fun x =>
            if x.opId = o.opId then { o with entries := entries, outstanding := false } else x) ∧
      (e1.taken = o.samples → ∀ i, firstPending 0 entries = some i → o.current < i →
        t.notices = s.notices ∧
          t.ops.table = s.ops.table.map fun x =>
            if x.opId = o.opId then { o with entries := entries, outstanding := false, current := i } else x) ∧
      (e1.taken = o.samples → firstPending 0 entries = none →
        t.ops.table = s.ops.table.filter (fun x => x.opId != o.opId) ∧
          t.notices = (s.notices.arrive
            (.opDone
              { opId := o.opId, kind := .measure, aborted := false
                entries := entries.map fun x =>
                  { channel := x.channel, outcome := x.outcome, validCount := x.valid
                    first := if x.valid = 0 then none else some (x.sum / x.valid)
                    minMax := if x.valid = 0 then none else x.minMax } })).1)

/-- A CALIBRATE sample: a valid one joins the tallies of the current entry, and the last one ends it COMPLETE with the mean,
rounded down, as the baseline of the channel in IDLE; an invalid one ends it FAILED and puts the channel into FAULT. The
channel's record comes before the move to the next PENDING entry or, with none left, before the OP_DONE record with which
the operation leaves the table. No other channel, no lock and no other operation changes (R97, R98, R132 to R134). -/
def Obligations.CalibrateSampleCounted : Prop :=
  ∀ (s : State) (o : Operation) (e : OpEntry) (r : Reading), s.Sound → o ∈ s.ops.table →
    o.kind = .calibrate → o.outstanding = true → o.entries[o.current]? = some e →
    let t := s.takeSample o.opId o.current r
    let ch := s.channels[e.channel]
    let e1 : OpEntry :=
      match r with
      | .value raw =>
        { e with
          taken := e.taken + 1, valid := e.valid + 1, sum := e.sum + raw
          minMax := match e.minMax with | none => some (raw, raw) | some (lo, hi) => some (min lo raw, max hi raw) }
      | .noSignal | .overrange => { e with taken := e.taken + 1 }
    let outcome : EntryOutcome :=
      match r with
      | .value _ => if e1.taken = o.samples then .complete else .pending
      | .noSignal | .overrange => .failed
    let mean := e1.sum / o.samples
    let entries := o.entries.set o.current { e1 with outcome := outcome }
    let told (next : ChanState) (reason : Reason) (value : Option Int) : NoticeQueue :=
      if ch.config.events then
        (s.notices.arrive
          (.state
            { channel := e.channel, round := none, previous := .calibrating, next := next, reason := reason
              value := value })).1
      else s.notices
    let n1 : NoticeQueue :=
      if outcome = .complete then told .idle .calibrated (some (mean : Int)) else told .fault .fault none
    (∀ c : ChanId, c ≠ e.channel → t.channels[c] = s.channels[c]) ∧ t.locks = s.locks ∧
      t.channels[e.channel].config = ch.config ∧ t.seq = s.seq ∧ t.res = s.res ∧ t.queue = s.queue ∧
      t.ops.nextId = s.ops.nextId ∧
      (outcome = .pending → t.channels = s.channels ∧ t.notices = s.notices ∧
        t.ops.table = s.ops.table.map fun x =>
          if x.opId = o.opId then { o with entries := entries, outstanding := false } else x) ∧
      (outcome = .complete → t.channels[e.channel].live =
        { ch.live with
          state := .idle, baseline := some mean, debounce := 0, activeResults := 0, driftCount := 0
          reverseCount := 0, faultCount := 0, suppressed := false }) ∧
      (outcome = .failed → t.channels[e.channel].live = { state := .fault }) ∧
      (outcome ≠ .pending → ∀ i, firstPending 0 entries = some i →
        o.current < i ∧ t.notices = n1 ∧
          t.ops.table = s.ops.table.map fun x =>
            if x.opId = o.opId then { o with entries := entries, outstanding := false, current := i } else x) ∧
      (outcome ≠ .pending → firstPending 0 entries = none →
        t.ops.table = s.ops.table.filter (fun x => x.opId != o.opId) ∧
          t.notices = (n1.arrive
            (.opDone
              { opId := o.opId, kind := .calibrate, aborted := false
                entries := entries.map fun x =>
                  { channel := x.channel, outcome := x.outcome, validCount := 0
                    first := if x.outcome = .complete then some (x.sum / o.samples) else none
                    minMax := if x.valid = 0 then none else x.minMax } })).1)

/-! ## Sequencer -/

/-- The expiry of the round timer: in a round an overrun, counted and, the first of a run, recorded; between rounds the
next round begins, with the entries that are due and eligible; the timer runs on with its period, and the expiry of a
stopped timer is not taken (R57, R66 to R68). The eligible entries of a round stand in the model's own field (log 10). -/
def Obligations.RoundTimerExpiry : Prop :=
  ∀ s : State,
    (s.seq.timer = none → exec .roundTimerExpiry s = .next s) ∧
    (∀ x, s.seq.timer = some x → s.seq.inRound = true →
      exec .roundTimerExpiry s = .next
        { s with
          seq :=
            { s.seq with
              timer := some { period := x.period, elapsed := 0 }, overruns := min (s.seq.overruns + 1) 65535
              heldStart := true, overrunReported := true }
          notices :=
            if s.seq.overrunReported then s.notices
            else (s.notices.arrive (.scan .overrun s.seq.round)).1 }) ∧
    (∀ x, s.seq.timer = some x → s.seq.inRound = false → s.seq.heldStart = false →
      (s.seq.mode = .running ∨ s.seq.mode = .watch) →
      ∃ t, exec .roundTimerExpiry s = .next t ∧ t.seq.round = (s.seq.round + 1) % 65536 ∧
        t.seq.timer = some { period := x.period, elapsed := 0 } ∧ t.seq.mode = s.seq.mode ∧
        t.seq.heldStart = false ∧ t.seq.overruns = s.seq.overruns ∧
        t.seq.overrunReported = s.seq.overrunReported ∧ t.seq.list = s.seq.list ∧ t.notices = s.notices ∧
        t.channels = s.channels ∧ t.locks = s.locks ∧ t.line = s.line ∧ t.delivery = s.delivery ∧
        t.handler = s.handler ∧ t.resetHeld = s.resetHeld ∧ t.pending = s.pending ∧
        let due (i : Nat) : Prop :=
          ∃ e, s.seq.list[i]? = some e ∧ t.seq.round % e.divider = 0 ∧
            (s.seq.mode = .watch → e.watch = true) ∧ s.channels[e.channel].config.enable = true ∧
            s.channels[e.channel].live.state ≠ .calibrating
        (t.seq.inRound = true ↔ ∃ i, due i) ∧
        (t.seq.inRound = true → (∀ i, i ∈ t.seq.eligible ↔ due i) ∧
          ∀ i, i ∈ t.seq.outstanding ↔ due i ∧ i < t.seq.issuePos))

/-- A detection in WATCH: after the tracker has taken the result whole, a TOUCH, ZONE or FAULT transition wakes the
sequencer with reason DETECT, its record after those of the result; any other result leaves it in WATCH. So too when a
unit completes a scan job: the unit is released, and the wake begins a RUNNING run with the next round, the round timer
from zero with the run period and no scan job of the abandoned round (R35, R36, R65, R66, R68, R74, R76). The eligible
entries of a round stand in the model's own field (log 10). -/
def Obligations.DetectionWakes : Prop :=
  (∀ (s : State) (c : ChanId) (entry : Nat) (r : Reading), s.seq.mode = .watch → s.seq.round ≤ 65535 →
    let t := s.scanResult c entry s.seq.round r
    let tracked := s.trackResult c s.seq.round r
    t.channels = tracked.channels ∧ t.locks = tracked.locks ∧
    ((∃ x, (s.verdict c r).transition = some x ∧ x.reason ∈ [Reason.touch, .zone, .fault]) →
      t.seq.mode = .running ∧ t.seq.round = (s.seq.round + 1) % 65536 ∧
        t.notices = (tracked.notices.arrive (.scan (.woke .detect) s.seq.round)).1) ∧
    ((∀ x, (s.verdict c r).transition = some x → x.reason ∉ [Reason.touch, .zone, .fault]) →
      t.seq.mode = .watch ∧ t.notices = tracked.notices)) ∧
  (∀ (s : State) (u : UnitId) (run : Running) (entry : Nat) (r : Reading), s.res.units[u] = some run →
    run.job.origin = .scan entry s.seq.round → s.seq.mode = .watch →
    (∃ x, (s.verdict run.job.channel r).transition = some x ∧ x.reason ∈ [Reason.touch, .zone, .fault]) →
    let tracked := State.trackResult run.job.channel s.seq.round r { s with res := s.res.release u run }
    let t := s.completeJob u run r
    t.channels = tracked.channels ∧ t.locks = tracked.locks ∧ t.line = s.line ∧ t.delivery = s.delivery ∧
      t.handler = s.handler ∧ t.resetHeld = s.resetHeld ∧ t.pending = s.pending ∧
      t.ops.table.map Operation.opId = s.ops.table.map Operation.opId ∧ t.ops.nextId = s.ops.nextId ∧
      t.notices = (tracked.notices.arrive (.scan (.woke .detect) s.seq.round)).1 ∧
      t.seq.mode = .running ∧ t.seq.round = (s.seq.round + 1) % 65536 ∧
      t.seq.timer = some { period := s.seq.runPeriod, elapsed := 0 } ∧ t.seq.overrunReported = false ∧
      t.seq.heldStart = false ∧ t.seq.list = s.seq.list ∧ t.seq.runPeriod = s.seq.runPeriod ∧
      t.seq.watchPeriod = s.seq.watchPeriod ∧ t.seq.overruns = s.seq.overruns ∧
      tracked.BeganRound .running t ∧ t.ScanJobsOfRound)

/-- Scan results and end reports. A result among others outstanding, with no job waiting and no operation: its resources
are released, the tracker takes it whole, its entry leaves the outstanding set, and nothing else changes. An end report
that is not of the round in progress is ignored; one that leaves others outstanding or comes before issue has ended takes
its entry from the set; the last one completes the round: SINGLE ends in STOPPED with SCAN DONE, RUNNING and WATCH wait in
BETWEEN, or with a held start begin the next round without restarting the timer. So too for a result among waiting jobs
and operations, whose records stand before those of the completion, and which loses no job; in WATCH, when it is no
detection (R35, R36, R68 to R72). The model's choices: its own field `eligible` is empty in BETWEEN (log 10), and
a round that an end report begins by a held start finds its entries at that report and issues them later (log 9). -/
def Obligations.ScanResultIsTaken : Prop :=
  (∀ (s : State) (u : UnitId) (run : Running) (entry : Nat) (r : Reading), s.seq.mode ≠ .watch → s.queue = [] →
    s.ops.table = [] → run.job.origin = .scan entry s.seq.round → s.seq.inRound = true →
    s.seq.list.length ≤ s.seq.issuePos → entry ∈ s.seq.outstanding → s.seq.outstanding.erase entry ≠ [] →
    s.completeJob u run r =
      { State.trackResult run.job.channel s.seq.round r { s with res := s.res.release u run } with
        seq := { s.seq with outstanding := s.seq.outstanding.erase entry } }) ∧
  (∀ (s : State) (entry round : Nat),
    ¬ (s.seq.inRound = true ∧ s.seq.round = round ∧ entry ∈ s.seq.outstanding) → s.endReport entry round = s) ∧
  (∀ (s : State) (entry : Nat), s.seq.inRound = true → entry ∈ s.seq.outstanding →
    let left := s.seq.outstanding.erase entry
    let ended : Sequencer := { s.seq with inRound := false, issuePos := 0, outstanding := [], eligible := [] }
    let next := (s.seq.round + 1) % 65536
    (s.seq.issuePos < s.seq.list.length ∨ left ≠ [] →
      s.endReport entry s.seq.round = { s with seq := { s.seq with outstanding := left } }) ∧
    (s.seq.list.length ≤ s.seq.issuePos → left = [] →
      (s.seq.mode = .single →
        s.endReport entry s.seq.round =
          { s with
            seq := { ended with mode := .stopped }
            notices := (s.notices.arrive (.scan .done s.seq.round)).1 }) ∧
      (s.seq.mode = .running ∨ s.seq.mode = .watch →
        (s.seq.heldStart = false → s.endReport entry s.seq.round = { s with seq := ended }) ∧
        (s.seq.heldStart = true → ∃ begun : List Nat, (∀ i, i ∈ begun ↔ s.DueAndEligible s.seq.mode next i) ∧
          s.endReport entry s.seq.round =
            { s with
              seq := { ended with heldStart := false, round := next, inRound := true, eligible := begun } })))) ∧
  (∀ (s : State) (u : UnitId) (run : Running) (entry : Nat) (r : Reading), s.res.units[u] = some run →
    run.job.origin = .scan entry s.seq.round → s.seq.inRound = true → entry ∈ s.seq.outstanding →
    (s.seq.mode = .watch → ∀ x, (s.verdict run.job.channel r).transition = some x →
      x.reason ∉ [Reason.touch, .zone, .fault]) →
    let tracked := State.trackResult run.job.channel s.seq.round r { s with res := s.res.release u run }
    let t := s.completeJob u run r
    let left := s.seq.outstanding.erase entry
    let ended : Sequencer := { s.seq with inRound := false, issuePos := 0, outstanding := [], eligible := [] }
    t.channels = tracked.channels ∧ t.locks = tracked.locks ∧ t.line = s.line ∧ t.delivery = s.delivery ∧
      t.handler = s.handler ∧ t.resetHeld = s.resetHeld ∧ t.pending = s.pending ∧
      t.ops.table.map Operation.opId = s.ops.table.map Operation.opId ∧ t.ops.nextId = s.ops.nextId ∧
      (∀ j ∈ s.queue, ∃ k ∈ t.jobs, k = { j with passCount := k.passCount }) ∧
      (∀ v : UnitId, v ≠ u → s.res.units[v] ≠ none → t.res.units[v] = s.res.units[v]) ∧
      (left ≠ [] →
        t.notices = tracked.notices ∧ s.seq.issuePos ≤ t.seq.issuePos ∧
          t.seq = { s.seq with outstanding := t.seq.outstanding, issuePos := t.seq.issuePos } ∧
          ∀ i, i ∈ t.seq.outstanding ↔ i ∈ left ∨
            s.seq.issuePos ≤ i ∧ i < t.seq.issuePos ∧ i ∈ s.seq.eligible ∧ ∃ e, s.seq.list[i]? = some e ∧
              tracked.channels[e.channel].config.enable = true ∧
              tracked.channels[e.channel].live.state ≠ .calibrating) ∧
      (s.seq.list.length ≤ s.seq.issuePos → left = [] →
        (s.seq.mode = .single →
          t.seq = { ended with mode := .stopped } ∧
            t.notices = (tracked.notices.arrive (.scan .done s.seq.round)).1) ∧
        (s.seq.mode = .running ∨ s.seq.mode = .watch → t.notices = tracked.notices ∧
          (s.seq.heldStart = false → t.seq = ended) ∧
          (s.seq.heldStart = true →
            t.seq.mode = s.seq.mode ∧ t.seq.round = (s.seq.round + 1) % 65536 ∧ t.seq.heldStart = false ∧
              t.seq.timer = s.seq.timer ∧ t.seq.list = s.seq.list ∧ t.seq.overruns = s.seq.overruns ∧
              t.seq.overrunReported = s.seq.overrunReported ∧ tracked.BeganRound s.seq.mode t))))

/-! ## Counting units -/

/-- The edges that do not end a job: they count, arm or open the gate, or are of the wrong kind; only the counters and the
phase of their unit change (R28 to R31). `w` is the job with its counters brought up to date: each counter holds the whole
tick periods since its own event, whatever part of a period has passed at the other one (R21, R26). An edge at the very
moment of the expiry is still taken, a later one is not and changes nothing (R28, R29, R32; log 1). The model's choices:
the span counter is cleared when a gate opens and stands still while it is open (log 28), times are held in picoseconds
(log 29), and an edge at tick 65535 comes too late (log 3). -/
def Obligations.EdgesCount : Prop :=
  (∀ (r : Running) (dt : Nat),
    let w := r.pass dt
    let m := r.job.snapshot
    let tick := 2 ^ m.prescale * 62500
    let gate : Prop := r.phase = .count ∧ m.mode = .gated
    w.phase = r.phase ∧ w.job = r.job ∧ w.cell = r.cell ∧ w.edges = r.edges ∧
      w.tickTime = (if r.phase = .count then r.tickTime + dt else r.tickTime) ∧
      (gate → w.spanTime = r.spanTime) ∧ (¬ gate → w.spanTime = r.spanTime + dt) ∧
      w.ticks = w.tickTime / tick ∧ w.spanTicks = w.spanTime / tick ∧
      (gate → (w.isPast = false ↔ w.tickTime ≤ m.gateLength * tick)) ∧
      (¬ gate →
        (w.isPast = false ↔ w.spanTime ≤ m.timeout * tick ∧ (r.phase = .count → w.tickTime / tick < 65535)))) ∧
  (∀ (s : State) (u : UnitId) (dt : Nat) (r : Running), s.res.units[u] = some r → (r.pass dt).isPast = true →
    ∀ c ∈ [Instr.settleEdge u dt, .gateEdge u dt, .armingEdge u dt, .periodEdge u dt, .intervalArmingEdge u .rising dt,
      .intervalArmingEdge u .falling dt, .intervalFinalEdge u .rising dt, .intervalFinalEdge u .falling dt],
      exec c s = .next s) ∧
  ∀ (s : State) (u : UnitId) (dt : Nat) (r : Running), s.res.units[u] = some r →
    let w := r.pass dt
    let m := r.job.snapshot
    let put (x : Running) : State := { s with res := { s.res with units := s.res.units.set u (some x) } }
    w.isPast = false →
    (r.phase = .settle → r.edges + 1 < m.settleCycles →
      exec (.settleEdge u dt) s = .next (put { w with edges := r.edges + 1 })) ∧
    (r.phase = .settle → m.settleCycles ≤ r.edges + 1 →
      exec (.settleEdge u dt) s = .next
        (put
          { w with
            phase := if m.mode = .gated then .count else .arm, edges := 0, tickTime := 0, spanTime := 0 })) ∧
    (r.phase = .count → m.mode = .gated →
      exec (.gateEdge u dt) s = .next (put { w with edges := min (r.edges + 1) 16777216 })) ∧
    (r.phase = .arm → m.mode = .period →
      exec (.armingEdge u dt) s = .next (put { w with phase := .count, edges := 0, tickTime := 0 })) ∧
    (r.phase = .count → m.mode = .period → r.edges + 1 < m.cycleCount →
      exec (.periodEdge u dt) s = .next (put { w with edges := r.edges + 1 })) ∧
    (∀ e : Edge, r.phase = .arm → m.mode = .interval →
      exec (.intervalArmingEdge u e dt) s = .next
        (put
          (if e = (match m.edgePair with | .riseRise | .riseFall => Edge.rising | .fallFall | .fallRise => .falling)
            then { w with phase := .count, edges := 0, tickTime := 0 } else w))) ∧
    (∀ e : Edge, r.phase = .count → m.mode = .interval →
      e ≠ (match m.edgePair with | .riseRise | .fallRise => Edge.rising | .fallFall | .riseFall => .falling) →
      exec (.intervalFinalEdge u e dt) s = .next (put w))

/-- The events that end a job, each with the reading it yields: the gate's close by the edge counter, the final edge of a
PERIOD or INTERVAL count with the whole ticks since the arming edge, the timeout with NO_SIGNAL. A final edge at the very
moment of the timeout completes the job, a later one is not taken; the value of a PERIOD or INTERVAL job stays below
65535, for which an edge at tick 65535 comes too late (the model's choice, log 3), a case that only the very moment of a
timeout of 65535 has (R21, R28 to R33). Times are held in picoseconds (log 29). A completed operation job releases its
unit, is taken as the sample it is before the grant pass, and changes nothing else than what a job issued or granted then changes; a result that names no operation with that job
outstanding is discarded (R35, R130). -/
def Obligations.JobsComplete : Prop :=
  (∀ (s : State) (u : UnitId) (r : Running), s.res.units[u] = some r →
    let m := r.job.snapshot
    (r.phase = .count → m.mode = .gated →
      exec (.gateClose u) s = .next
        (s.completeJob u r
          (if r.edges = 0 then .noSignal else if r.edges ≤ 16777215 then .value r.edges else .overrange))) ∧
    (∀ dt, r.phase = .count → m.mode = .period → (r.pass dt).isPast = false → m.cycleCount ≤ r.edges + 1 →
      exec (.periodEdge u dt) s = .next
        (s.completeJob u (r.pass dt) (.value ((r.tickTime + dt) / (2 ^ m.prescale * 62500))))) ∧
    (∀ dt e, r.phase = .count → m.mode = .interval → (r.pass dt).isPast = false →
      e = (match m.edgePair with | .riseRise | .fallRise => Edge.rising | .fallFall | .riseFall => .falling) →
      exec (.intervalFinalEdge u e dt) s = .next
        (s.completeJob u (r.pass dt) (.value ((r.tickTime + dt) / (2 ^ m.prescale * 62500))))) ∧
    (¬ (r.phase = .count ∧ m.mode = .gated) → exec (.spanTimeout u) s = .next (s.completeJob u r .noSignal))) ∧
  (∀ (s : State) (u : UnitId) (dt : Nat) (r : Running), s.ClocksSound → s.SnapshotsValid → s.res.units[u] = some r →
    r.phase = .count → r.job.snapshot.mode ≠ .gated →
    let tick := 2 ^ r.job.snapshot.prescale * 62500
    let ticks := (r.tickTime + dt) / tick
    let spanned := r.spanTime + dt
    let limit := r.job.snapshot.timeout * tick
    ((r.pass dt).isPast = false ↔ spanned ≤ limit ∧ ticks < 65535) ∧
    (limit < spanned ∨ 65535 ≤ ticks →
      exec (.periodEdge u dt) s = .next s ∧ ∀ e, exec (.intervalFinalEdge u e dt) s = .next s) ∧
    (spanned ≤ limit → ticks ≤ r.job.snapshot.timeout) ∧
    (spanned < limit → ticks < r.job.snapshot.timeout ∧ ticks < 65535)) ∧
  (∀ (s : State) (id entry : Nat) (r : Reading),
    (∀ o ∈ s.ops.table, ¬ (o.opId = id ∧ o.outstanding = true ∧ o.current = entry)) →
    s.takeSample id entry r = s) ∧
  (∀ (s : State) (u : UnitId) (run : Running) (id entry : Nat) (r : Reading), s.res.units[u] = some run →
    run.job.origin = .op id entry → (s.ops.table.map Operation.opId).Nodup →
    (s.seq.inRound = true → s.seq.outstanding ≠ []) →
    let taken := State.takeSample id entry r { s with res := s.res.release u run }
    let t := s.completeJob u run r
    let tallies (e : OpEngine) := e.table.map fun o => { o with started := true, outstanding := true }
    t.channels = taken.channels ∧ t.locks = taken.locks ∧ t.notices = taken.notices ∧
      tallies t.ops = tallies taken.ops ∧ t.ops.nextId = s.ops.nextId ∧
      t.seq = { s.seq with outstanding := t.seq.outstanding, issuePos := t.seq.issuePos } ∧
      (s.seq.inRound = false → t.seq = s.seq) ∧ t.line = s.line ∧ t.delivery = s.delivery ∧
      t.handler = s.handler ∧ t.resetHeld = s.resetHeld ∧ t.pending = s.pending ∧
      (∀ j ∈ s.queue, ∃ k ∈ t.jobs, k = { j with passCount := k.passCount }) ∧
      (∀ v : UnitId, v ≠ u → s.res.units[v] ≠ none → t.res.units[v] = s.res.units[v]) ∧
      (t.res.units[u] = none ∨ ∃ j cell, t.res.units[u] = some (Running.start j cell)) ∧
      (s.queue = [] → s.seq.inRound = false → (∀ o ∈ taken.ops.table, o.needsJob = false) → t = taken))

/-! ## Arbiter -/

/-- A job that is issued enters at the young end of the queue with pass count 0 and a snapshot of its channel's measuring
fields as they stand, and a grant pass runs (R2, R41, R42). When a waiting job is grantable, and what it is given: the lowest free unit, for an oscillator source the lowest free
cell and a pin without a claim, for EXT a pin without an oscillator claim; in WATCH only CU0 and OC0 (R45, R47, R51). The
grant puts the unit in the job's first phase with every counter at 0, takes the claim of the job's pin and, for an
oscillator source, the cell with the job's pin, mode and drive level; nothing else changes (R23, R27, R44, R48). A grant
pass grants its oldest job when that one is grantable, changes nothing when no job waits or the only one is not grantable,
and leaves every busy unit as it is; a unit it makes busy has just taken a job that waited (R46 to R48). The walk goes on
to the next younger job past a granted job, with the resources that remain, and past a job that is not grantable and has a
pass count below 4; at pass count 4 it stops (R47).
That the span counter is 0 where the first phase is COUNT in GATED is the model's choice (log 28). -/
def Obligations.GrantTakesLowest : Prop :=
  (∀ (origin : Origin) (c : ChanId) (s : State),
    s.enterJob origin c =
      State.grantPass
        { s with
          queue :=
            s.queue ++
              [{ origin := origin, channel := c, snapshot := s.channels[c].config.measuring, passCount := 0 }] }) ∧
  (∀ (watch : Bool) (j : Job) (res : Resources) (u : UnitId) (cell : Option CellId),
    res.offer watch j = some (u, cell) ↔
      (res.units[u] = none ∧ (∀ v : UnitId, v < u → res.units[v] ≠ none) ∧ (watch = true → u = 0)) ∧
      (j.snapshot.source = .ext →
        cell = none ∧ (res.claims[j.snapshot.pin] = .free ∨ ∃ n, res.claims[j.snapshot.pin] = .ext n)) ∧
      (j.snapshot.source ≠ .ext →
        res.claims[j.snapshot.pin] = .free ∧
          ∃ c : CellId, cell = some c ∧ res.cells[c] = none ∧ (∀ d : CellId, d < c → res.cells[d] ≠ none) ∧
            (watch = true → c = 0))) ∧
  (∀ (watch : Bool) (j : Job) (res : Resources) (u : UnitId) (cell : Option CellId),
    res.offer watch j = some (u, cell) →
    let m := j.snapshot
    let t := res.grant j u cell
    (∃ phase : Phase,
      t.units[u] = some { phase := phase, job := j, cell := cell, edges := 0, tickTime := 0, spanTime := 0 } ∧
      (m.source ≠ .ext → 1 ≤ m.settleCycles → phase = .settle) ∧
      (m.source ≠ .ext → m.settleCycles = 0 → m.mode = .gated → phase = .count) ∧
      (m.source ≠ .ext → m.settleCycles = 0 → m.mode = .period → phase = .arm) ∧
      (m.source = .ext → m.mode = .gated → phase = .count) ∧
      (m.source = .ext → m.mode = .period ∨ m.mode = .interval → phase = .arm)) ∧
    (∀ v : UnitId, v ≠ u → t.units[v] = res.units[v]) ∧
    (m.source ≠ .ext → t.claims[m.pin] = .osc u) ∧
    (m.source = .ext → res.claims[m.pin] = .free → t.claims[m.pin] = .ext 1) ∧
    (m.source = .ext → ∀ n, res.claims[m.pin] = .ext n → t.claims[m.pin] = .ext (n + 1)) ∧
    (∀ p : PinId, p ≠ m.pin → t.claims[p] = res.claims[p]) ∧
    (∀ c : CellId, t.cells[c] =
      if cell = some c then
        some { pin := m.pin, mode := if m.source = .oscRes then .res else .cap, driveLevel := m.driveLevel }
      else res.cells[c])) ∧
  (∀ (watch : Bool) (j : Job) (js : List Job) (res : Resources),
    (∀ u cell, res.offer watch j = some (u, cell) →
      let rest := grantWalk watch js (res.grant j u cell)
      grantWalk watch (j :: js) res = ((j, true) :: rest.1, rest.2)) ∧
    (res.offer watch j = none → j.passCount < 4 →
      let rest := grantWalk watch js res
      grantWalk watch (j :: js) res = ((j, false) :: rest.1, rest.2)) ∧
    (res.offer watch j = none → 4 ≤ j.passCount →
      grantWalk watch (j :: js) res = ((j, false) :: js.map fun k => (k, false), res))) ∧
  (∀ (s : State) (j : Job) (js : List Job), s.queue = j :: js →
    let watch := s.seq.mode == .watch
    (∀ u cell, s.res.offer watch j = some (u, cell) →
      s.grantPass = State.grantPass { s with res := s.res.grant j u cell, queue := js }) ∧
    (s.res.offer watch j = none → js = [] → s.grantPass = s)) ∧
  (∀ s : State, s.queue = [] → s.grantPass = s) ∧
  (∀ (s : State) (v : UnitId),
    (s.res.units[v] ≠ none → s.grantPass.res.units[v] = s.res.units[v]) ∧
    (s.res.units[v] = none → s.grantPass.res.units[v] = none ∨
      ∃ j ∈ s.queue, ∃ cell, s.grantPass.res.units[v] = some (Running.start j cell)))

/-- A waiting job with pass count 4 that is not granted holds back every younger job (R47, R50). -/
def Obligations.BlockedJobStopsYounger : Prop :=
  ∀ (watch : Bool) (js : List Job) (res : Resources) (i k : Nat) (j q : Job) (granted : Bool),
    (grantWalk watch js res).1[i]? = some (j, false) → 4 ≤ j.passCount → i < k →
    (grantWalk watch js res).1[k]? = some (q, granted) → granted = false

/-- A grant pass leaves the ungranted jobs waiting in their order; each that is older than a granted one has its pass
count raised by one, the others keep theirs (R42, R49). -/
def Obligations.PassCountsRaisedOnce : Prop :=
  ∀ s : State,
    let marked := (grantWalk (s.seq.mode == .watch) s.queue s.res).1
    marked.map Prod.fst = s.queue ∧
      s.grantPass.queue = (marked.zipIdx.filter fun x => !x.1.2).map fun x =>
        if (marked.drop (x.2 + 1)).any fun y => y.2 then { x.1.1 with passCount := x.1.1.passCount + 1 } else x.1.1

/-! ## Tracker -/

/-- What a valid result does to a DELTA channel. SETTLING gathers and at the settle count averages into the baseline of IDLE.
IDLE judges the signal: touch-qualifying arms or attempts ACTIVE; reverse counts and at the limit re-bases; quiet counts
and at the drift interval moves the baseline by at most the drift step. ARMING debounces and attempts ACTIVE, which
succeeds exactly when the lock is open, or returns to IDLE. ACTIVE and RELEASING count, end by the hold limit, or debounce
the release (R80, R84 to R94). -/
def Obligations.DeltaResults : Prop :=
  (∀ (k : ChannelConfig) (isOpen : Bool) (raw : Nat) (l : LiveState), k.detector = .delta → l.state = .settling →
    (l.settleSamples + 1 < k.delta.settleCount →
      detect k isOpen (.value raw) l =
        { live := { l with faultCount := 0, settleSum := l.settleSum + raw, settleSamples := l.settleSamples + 1 }
          lock := .keep, transition := none }) ∧
    (k.delta.settleCount ≤ l.settleSamples + 1 →
      let mean := (l.settleSum + raw) / k.delta.settleCount
      detect k isOpen (.value raw) l =
        { live :=
            { l with
              faultCount := 0, state := .idle, baseline := some mean, settleSum := 0, settleSamples := 0
              driftCount := 0, reverseCount := 0, lastReported := none }
          lock := .keep, transition := some { reason := .settled, value := some (mean : Int) } })) ∧
  (∀ (k : ChannelConfig) (isOpen : Bool) (raw base : Nat) (l : LiveState), k.detector = .delta → l.state = .idle →
    l.baseline = some base →
    let signal : Int := if k.delta.direction = .falling then (base : Int) - raw else (raw : Int) - base
    let quiet (l : LiveState) : Verdict := { live := l, lock := .keep, transition := none }
    let cleared : LiveState := { l with faultCount := 0 }
    (k.delta.onThreshold ≤ signal → 1 < k.debounceOn →
      detect k isOpen (.value raw) l = quiet { cleared with state := .arming, reverseCount := 0, debounce := 1 }) ∧
    (k.delta.onThreshold ≤ signal → k.debounceOn = 1 → isOpen = true →
      detect k isOpen (.value raw) l =
        { live :=
            { cleared with state := .active, reverseCount := 0, debounce := 0, activeResults := 0, suppressed := false }
          lock := .take, transition := some { reason := .touch, value := some signal } }) ∧
    (k.delta.onThreshold ≤ signal → k.debounceOn = 1 → isOpen = false →
      detect k isOpen (.value raw) l =
        quiet { cleared with state := .arming, reverseCount := 0, debounce := 1, suppressed := true }) ∧
    (signal < k.delta.onThreshold → signal ≤ -(k.delta.offThreshold : Int) →
      l.reverseCount + 1 < k.delta.reverseLimit →
      detect k isOpen (.value raw) l = quiet { cleared with reverseCount := l.reverseCount + 1 }) ∧
    (signal < k.delta.onThreshold → signal ≤ -(k.delta.offThreshold : Int) →
      k.delta.reverseLimit ≤ l.reverseCount + 1 →
      detect k isOpen (.value raw) l = quiet { cleared with baseline := some raw, reverseCount := 0 }) ∧
    (signal < k.delta.onThreshold → -(k.delta.offThreshold : Int) < signal →
      l.driftCount + 1 < k.delta.driftInterval →
      detect k isOpen (.value raw) l = quiet { cleared with reverseCount := 0, driftCount := l.driftCount + 1 }) ∧
    (signal < k.delta.onThreshold → -(k.delta.offThreshold : Int) < signal →
      k.delta.driftInterval ≤ l.driftCount + 1 →
      detect k isOpen (.value raw) l =
        quiet
          { cleared with
            reverseCount := 0, driftCount := 0
            baseline := some
              (if base ≤ raw then base + min k.delta.driftStep (raw - base)
                else base - min k.delta.driftStep (base - raw)) })) ∧
  (∀ (k : ChannelConfig) (isOpen : Bool) (raw base : Nat) (l : LiveState), k.detector = .delta → l.state = .arming →
    l.baseline = some base →
    let signal : Int := if k.delta.direction = .falling then (base : Int) - raw else (raw : Int) - base
    let quiet (l : LiveState) : Verdict := { live := l, lock := .keep, transition := none }
    let cleared : LiveState := { l with faultCount := 0 }
    (signal < k.delta.onThreshold →
      detect k isOpen (.value raw) l = quiet { cleared with state := .idle, debounce := 0, suppressed := false }) ∧
    (k.delta.onThreshold ≤ signal → l.suppressed = false → l.debounce + 1 < k.debounceOn →
      detect k isOpen (.value raw) l = quiet { cleared with debounce := l.debounce + 1 }) ∧
    (k.delta.onThreshold ≤ signal → (l.suppressed = true ∨ k.debounceOn ≤ l.debounce + 1) → isOpen = true →
      detect k isOpen (.value raw) l =
        { live := { cleared with state := .active, debounce := 0, activeResults := 0, suppressed := false }
          lock := .take, transition := some { reason := .touch, value := some signal } }) ∧
    (k.delta.onThreshold ≤ signal → (l.suppressed = true ∨ k.debounceOn ≤ l.debounce + 1) → isOpen = false →
      detect k isOpen (.value raw) l = quiet { cleared with debounce := k.debounceOn, suppressed := true })) ∧
  (∀ (k : ChannelConfig) (isOpen : Bool) (raw base : Nat) (l : LiveState), k.detector = .delta →
    (l.state = .active ∨ l.state = .releasing) → l.baseline = some base →
    let signal : Int := if k.delta.direction = .falling then (base : Int) - raw else (raw : Int) - base
    let count := min (l.activeResults + 1) 65535
    let held : Prop := 0 < k.delta.holdLimit ∧ k.delta.holdLimit ≤ count
    let off : Nat := if l.state = .releasing then l.debounce + 1 else 1
    let ended (l : LiveState) (reason : Reason) : Verdict :=
      { live :=
          { l with
            faultCount := 0, state := .idle, debounce := 0, activeResults := 0, driftCount := 0, reverseCount := 0 }
        lock := .free, transition := some { reason := reason, value := some signal } }
    let quiet (l : LiveState) : Verdict :=
      { live := { l with faultCount := 0, activeResults := count }, lock := .keep, transition := none }
    (held → detect k isOpen (.value raw) l = ended { l with baseline := some raw } .holdTimeout) ∧
    (¬ held → signal ≤ k.delta.offThreshold → k.debounceOff ≤ off →
      detect k isOpen (.value raw) l = ended l .release) ∧
    (¬ held → signal ≤ k.delta.offThreshold → off < k.debounceOff →
      detect k isOpen (.value raw) l = quiet { l with state := .releasing, debounce := off }) ∧
    (¬ held → k.delta.offThreshold < signal →
      detect k isOpen (.value raw) l = quiet { l with state := .active, debounce := 0 }))

/-- Invalid results: in a state that counts them, the fault limit puts the channel into FAULT with the live state cleared
and the lock freed, and below it only the fault count changes; in FAULT nothing changes, and a valid result recovers,
without being judged, to SETTLING, UNKNOWN or LIVE by detector (R82 to R84, R95, R110, R114, R116). -/
def Obligations.InvalidResultsLeadToFault : Prop :=
  ∀ (k : ChannelConfig) (isOpen : Bool) (r : Reading) (l : LiveState),
    let counting : List ChanState :=
      match k.detector with
      | .delta => [.settling, .idle, .arming, .active, .releasing]
      | .window => [.unknown, .inside, .above, .below]
      | .plain => [.live]
    (r = .noSignal ∨ r = .overrange → l.state ∈ counting → l.faultCount + 1 < k.faultLimit →
      detect k isOpen r l =
        { live := { l with faultCount := l.faultCount + 1 }, lock := .keep, transition := none }) ∧
    (r = .noSignal ∨ r = .overrange → l.state ∈ counting → k.faultLimit ≤ l.faultCount + 1 →
      detect k isOpen r l =
        { live := { state := .fault }, lock := .free, transition := some { reason := .fault, value := none } }) ∧
    (r = .noSignal ∨ r = .overrange → l.state = .fault →
      detect k isOpen r l = { live := l, lock := .keep, transition := none }) ∧
    (∀ raw, r = .value raw → l.state = .fault →
      detect k isOpen r l =
        { live :=
            match k.detector with
            | .delta => { l with faultCount := 0, state := .settling, settleSum := 0, settleSamples := 0 }
            | .window => { l with faultCount := 0, state := .unknown, candidate := none, debounce := 0 }
            | .plain => { l with faultCount := 0, state := .live }
          lock := .keep, transition := some { reason := .recover, value := none } })

/-- A valid result of a WINDOW channel: its zone by the effective limits of the state, hysteresis on the side the channel
is on; the zone of the state clears the candidate; another zone is debounced, by debounce off when it is INSIDE and the
state is not UNKNOWN, else by debounce on, and then entered with a ZONE transition (R108, R111 to R113). -/
def Obligations.WindowZones : Prop :=
  ∀ (k : ChannelConfig) (isOpen : Bool) (raw : Nat) (l : LiveState) (z : Zone), k.detector = .window →
    l.state ∈ [ChanState.unknown, .inside, .above, .below] →
    let low := if l.state = .below then k.window.lowLimit + k.window.hysteresis else k.window.lowLimit
    let high := if l.state = .above then k.window.highLimit - k.window.hysteresis else k.window.highLimit
    low ≤ high →
    (match z with | .below => raw < low | .above => high < raw | .inside => low ≤ raw ∧ raw ≤ high) →
    let count := if l.candidate = some z then l.debounce + 1 else 1
    let limit := if z = .inside ∧ l.state ≠ .unknown then k.debounceOff else k.debounceOn
    let named : ChanState := match z with | .below => .below | .inside => .inside | .above => .above
    (named = l.state →
      detect k isOpen (.value raw) l =
        { live := { l with faultCount := 0, candidate := none, debounce := 0 }, lock := .keep, transition := none }) ∧
    (named ≠ l.state → count < limit →
      detect k isOpen (.value raw) l =
        { live := { l with faultCount := 0, candidate := some z, debounce := count }, lock := .keep
          transition := none }) ∧
    (named ≠ l.state → limit ≤ count →
      detect k isOpen (.value raw) l =
        { live := { l with faultCount := 0, state := named, candidate := none, debounce := 0 }, lock := .keep
          transition := some { reason := .zone, value := some (raw : Int) } })

/-- What the tracker does with a scan result: the detector's verdict on the live state and the lock, last raw and last
signal, a STATE record of a transition with events ON before a RESULT record by the result mode, whose placing sets the
last reported value; no other channel changes (R10, R81, R91, R102, R104, R109, R115, R117 to R121). -/
def Obligations.ResultsAreReported : Prop :=
  ∀ (s : State) (c : ChanId) (round : Nat) (r : Reading),
    let k := s.channels[c].config
    let old := s.channels[c].live
    let v := detect k
      (match k.delta.group with | none => true | some g => decide (s.locks[g] = none ∨ s.locks[g] = some c)) r old
    let raw : Option Nat := match r with | .value x => some x | .noSignal => none | .overrange => some 16777215
    let signal : Option Int :=
      raw.bind fun x => v.live.baseline.map fun b =>
        if k.delta.direction = .falling then (b : Int) - x else (x : Int) - b
    let compared : Option Int := if signal.isSome then signal else raw.map fun x => (x : Int)
    let l : LiveState := { v.live with lastRaw := raw, lastSignal := signal }
    let n1 : NoticeQueue :=
      match v.transition with
      | some x =>
        if k.events then
          (s.notices.arrive
            (.state
              { channel := c, round := some round, previous := old.state, next := v.live.state, reason := x.reason
                value := x.value })).1
        else s.notices
      | none => s.notices
    let changed : Prop :=
      ∃ x : Int, compared = some x ∧ ∀ y : Int, v.live.lastReported = some y → k.changeStep ≤ (x - y).natAbs
    let wanted : Prop :=
      k.resultMode = .every ∨ k.resultMode = .change ∧ (∃ x, r = .value x) ∧ changed
    let arrival := n1.arrive
      (.result
        { channel := c, round := round, noSignal := r == .noSignal, overrange := r == .overrange
          suppressed := v.live.suppressed, state := v.live.state, raw := raw, baseline := v.live.baseline
          signal := signal })
    let t := s.trackResult c round r
    t.channels[c].config = k ∧ (∀ d : ChanId, d ≠ c → t.channels[d] = s.channels[d]) ∧
      (∀ g : LockId, t.locks[g] =
        if k.delta.group = some g then
          match v.lock with
          | .keep => s.locks[g]
          | .take => some c
          | .free => if s.locks[g] = some c then none else s.locks[g]
        else s.locks[g]) ∧
      (¬ wanted → t.notices = n1 ∧ t.channels[c].live = l) ∧
      (wanted → t.notices = arrival.1 ∧
        t.channels[c].live =
          if arrival.2 ∧ compared ≠ none then { l with lastReported := compared } else l) ∧
      t.seq = s.seq ∧ t.queue = s.queue ∧ t.res = s.res ∧ t.ops = s.ops ∧ t.line = s.line ∧
      t.delivery = s.delivery ∧ t.handler = s.handler

/-! ## Notice queue -/

/-- A record at a full queue: a RESULT record that cannot be coalesced is discarded and counted, and a CHANGE or EVERY
channel keeps its last reported value; any other record displaces the oldest RESULT record, which is counted, or, when
there is none, is discarded and counted by its kind (R144, R145). -/
def Obligations.FullQueueArrival : Prop :=
  (∀ (q : NoticeQueue) (r : Record), q.Fits → (q.arrive r).1.Fits) ∧
  (∀ (q : NoticeQueue) (x : ResultRecord), q.records.length = 32 → coalesce x q.records = none →
    q.arrive (.result x) =
      ({ records := q.records, tally := { q.tally with results := min (q.tally.results + 1) 65535 } }, false)) ∧
  (∀ (s : State) (c : ChanId) (round : Nat) (r : Reading), s.notices.records.length = 32 →
    coalesce (resultRecord c round r s.channels[c].live) s.notices.records = none →
    (s.addResultRecord c round r).channels[c].live.lastReported = s.channels[c].live.lastReported) ∧
  (∀ (q : NoticeQueue) (r : Record) (older younger : List Record) (x : ResultRecord), q.records.length = 32 →
    r.isResult = false → q.records = older ++ .result x :: younger → (∀ y ∈ older, y.isResult = false) →
    q.arrive r =
      ({ records := older ++ younger ++ [r]
         tally := { q.tally with results := min (q.tally.results + 1) 65535 } }, true)) ∧
  (∀ (q : NoticeQueue) (x : StateRecord), q.records.length = 32 → (∀ y ∈ q.records, y.isResult = false) →
    q.arrive (.state x) =
      ({ records := q.records, tally := { q.tally with states := min (q.tally.states + 1) 65535 } }, false)) ∧
  (∀ (q : NoticeQueue) (r : Record), q.records.length = 32 → (∀ y ∈ q.records, y.isResult = false) →
    ((∃ x, r = .opDone x) ∨ ∃ e n, r = .scan e n) →
    q.arrive r =
      ({ records := q.records, tally := { q.tally with others := min (q.tally.others + 1) 65535 } }, false))

/-- Coalescing: a new RESULT record is written over the youngest of its channel exactly when no STATE record of the channel
stands after it, in its place; with room, any other record is appended. The records that are not readings keep their
order and are never given up for a later record (R142, R143, R145, R148). -/
def Obligations.ReadingsAloneGiveWay : Prop :=
  ((∀ (q : NoticeQueue) (x y : ResultRecord) (older younger : List Record), y.channel = x.channel →
    q.records = older ++ .result y :: younger →
    (∀ z ∈ younger, z.isResultOf x.channel = false ∧ z.isStateOf x.channel = false) →
    q.arrive (.result x) = ({ q with records := older ++ .result x :: younger }, true)) ∧
  (∀ (q : NoticeQueue) (r : Record), q.records.length < 32 →
    (∀ x, r = .result x → ∀ older y younger, q.records = older ++ .result y :: younger → y.channel = x.channel →
      (∀ z ∈ younger, z.isResultOf x.channel = false) → ∃ z ∈ younger, z.isStateOf x.channel = true) →
    q.arrive r = ({ q with records := q.records ++ [r] }, true))) ∧
  (∀ (q : NoticeQueue) (r : Record),
    (q.arrive r).1.records.filter (fun x => !x.isResult) =
      q.records.filter (fun x => !x.isResult) ++ (if (q.arrive r).2 && !r.isResult then [r] else []))

/-! ## What every step keeps -/

/-- The state after reset is sound. -/
def Obligations.SoundAtReset : Prop := State.reset.Sound

/-- The notice queue keeps its bounds: 32 records, one reading per stretch, counts within 16 bits (R143, R145, R146). -/
def Obligations.NoticeQueueSoundKept : Prop :=
  ∀ s t : State, s.notices.Fits → s.notices.Stretched → s.notices.tally.Fits → step s = .next t →
    t.notices.Fits ∧ t.notices.Stretched ∧ t.notices.tally.Fits

/-- The job queue keeps its bounds, 6 scan jobs, 2 operation jobs and pass counts up to 4, and claims, cells and units keep
agreeing; from every sound state a step leaves no waiting job that a grant pass would grant, so a pass has run wherever a
job entered, a unit or a pin was freed or jobs were withdrawn (R23, R42, R44, R46, R50, R54). -/
def Obligations.ArbiterSoundKept : Prop :=
  (∀ s t : State, s.JobsFit → s.PassCountsFit → step s = .next t → t.JobsFit ∧ t.PassCountsFit) ∧
  (∀ s t : State, s.res.Agree → step s = .next t → t.res.Agree) ∧
  (∀ s t : State, s.Sound → step s = .next t →
    t.grantPass = t ∧
      ∀ j js, t.queue = j :: js → t.res.offer (t.seq.mode == .watch) j = none)

/-- Delivery stays sound: consecutive numbers, at most 4 in flight, the pass set a young end of them, the ack timer in OPEN
alone, HOLD exactly while notices are disabled (R164, R166, R167, R170, R172, R173). -/
def Obligations.DeliverySoundKept : Prop := ∀ s t : State, s.delivery.Sound → step s = .next t → t.delivery.Sound

/-- Configurations, the snapshots of the jobs and the counters of the units keep their ranges (R2 to R6, R26, R29 to
R32, R41). -/
def Obligations.RangesKept : Prop :=
  ∀ s t : State, s.ConfigsValid → s.SnapshotsValid → s.ClocksSound → step s = .next t →
    t.ConfigsValid ∧ t.SnapshotsValid ∧ t.ClocksSound

/-- Channels keep to the states of their detectors, the baseline stands in its four states alone, values keep their ranges,
and a lock is held exactly by the touched channel of its group (R8 to R11, R79, R96, R100, R103). -/
def Obligations.ChannelsAndLocksKept : Prop :=
  ∀ s t : State, s.Sound → step s = .next t →
    (∀ c : ChanId, t.channels[c].Sound ∧ t.channels[c].SuppressedSound) ∧ t.LivesInRange ∧ t.LocksSound

/-- The ops table keeps its bounds, ids and tallies; every operation samples its first PENDING entry; a channel is in
CALIBRATING exactly while one unfinished entry calibrates it; each operation has its one job, or none (R96, R123, R124,
R128, R129, R133). A free operation slot goes to the oldest operation that needs a job, by the engine alone and beside the
sequencer alike; its job samples its current entry, enters the queue, and the operation has its job outstanding and is
RUNNING; a filling of the partition leaves no such slot (R42, R128, R129). Which producer goes first where both could
issue is the free value of log 6. -/
def Obligations.OperationsSoundKept : Prop :=
  (∀ s t : State, s.Sound → step s = .next t →
    t.ops.Fits ∧ t.ops.CurrentPending ∧ t.ops.TalliesFit ∧ t.CalibrationsSound ∧ t.OpJobsSound) ∧
  (∀ (s : State) (o : Operation),
    let needs (x : Operation) : Prop :=
      x.outstanding = false ∧ ∃ e, x.entries[x.current]? = some e ∧ e.outcome = .pending
    s.nextOperation = some o ↔
      (s.queue.filter Job.isOp).length < 2 ∧
        ∃ older younger, s.ops.table = older ++ o :: younger ∧ needs o ∧ ∀ x ∈ older, ¬ needs x) ∧
  (∀ (s : State) (o : Operation) (e : OpEntry), o.entries[o.current]? = some e →
    s.issueSample o =
      State.grantPass
        { s with
          ops :=
            { s.ops with
              table := s.ops.table.map fun x =>
                if x.opId = o.opId then { o with outstanding := true, started := true } else x }
          queue :=
            s.queue ++
              [{ origin := .op o.opId o.current, channel := e.channel
                 snapshot := s.channels[e.channel].config.measuring, passCount := 0 }] }) ∧
  (∀ (s : State) (n : Nat),
    (∀ o, s.nextOperation = some o → s.fillFor (n + 1) = (s.issueSample o).fillFor n) ∧
    (s.nextOperation = none → s.fillFor n = s)) ∧
  (∀ s : State, s.fillPartition.nextOperation = none) ∧
  (∀ (s : State) (n : Nat) (arrived : Bool),
    (∀ o, s.producerStep arrived = .op o →
      s.nextOperation = some o ∧ s.driveFor (n + 1) arrived = (s.issueSample o).driveFor n arrived) ∧
    (∀ e o, s.producerStep arrived = .either e o →
      s.nextOperation = some o ∧
        (s.driveFor (n + 1) arrived = (s.countChoice.issueEntry e).driveFor n true ∨
          s.driveFor (n + 1) arrived = (s.countChoice.issueSample o).driveFor n arrived)))

/-- The sequencer stays sound; every scan job belongs to the round in progress and every outstanding entry has one; in
WATCH no operation stands in the table and only CU0 and OC0 work; the producers of the job queue leave no work undone
that a free slot admits (R43, R51, R69, R70, R73, R128). The entry that the sequencer can issue is the one at the issue
position, eligible in the round and with its channel ON and not CALIBRATING, while fewer than 6 scan jobs wait; its job
names the entry and the round, enters the queue, and the entry is outstanding (R42, R43, R69). The eligible entries stand
in the model's own field (log 10). -/
def Obligations.ProducersSoundKept : Prop :=
  (∀ s t : State, s.Sound → step s = .next t → t.seq.Sound ∧ t.ScanJobsSound ∧ t.WatchSound ∧ t.ProducersRest) ∧
  (∀ (s : State) (e : ScanEntry),
    s.nextScan = some e ↔
      s.seq.inRound = true ∧ s.seq.list[s.seq.issuePos]? = some e ∧ s.seq.issuePos ∈ s.seq.eligible ∧
        s.channels[e.channel].config.enable = true ∧ s.channels[e.channel].live.state ≠ .calibrating ∧
        (s.queue.filter Job.isScan).length < 6) ∧
  (∀ (s : State) (e : ScanEntry),
    s.issueEntry e =
      State.grantPass
        { s with
          seq :=
            { s.seq with
              outstanding := s.seq.outstanding ++ [s.seq.issuePos], issuePos := s.seq.issuePos + 1 }
          queue :=
            s.queue ++
              [{ origin := .scan s.seq.issuePos s.seq.round, channel := e.channel
                 snapshot := s.channels[e.channel].config.measuring, passCount := 0 }] }) ∧
  (∀ (s : State) (n : Nat) (arrived : Bool) (e : ScanEntry), s.producerStep arrived = .scan e →
    s.nextScan = some e ∧ s.driveFor (n + 1) arrived = (s.issueEntry e).driveFor n true)

/-- Every sound state steps, and into a sound state: the whole machine's invariant. -/
def Obligations.SoundStatesStepSafely : Prop := ∀ s : State, s.Sound → s.SafeStep
end

