-- ==== Sys2Proof/Laws/State.lean ====
section
/-! SUPPORT. The fields of State after each update that writes whole blocks: what an update leaves alone is true by rfl. -/

namespace Sys2Proof.Machine

variable (s : State)

/-! ### setLive -/

@[simp] theorem State.setLive_res (c : ChanId) (l : LiveState) : (s.setLive c l).res = s.res := rfl
@[simp] theorem State.setLive_queue (c : ChanId) (l : LiveState) : (s.setLive c l).queue = s.queue := rfl
@[simp] theorem State.setLive_seq (c : ChanId) (l : LiveState) : (s.setLive c l).seq = s.seq := rfl
@[simp] theorem State.setLive_locks (c : ChanId) (l : LiveState) : (s.setLive c l).locks = s.locks := rfl
@[simp] theorem State.setLive_ops (c : ChanId) (l : LiveState) : (s.setLive c l).ops = s.ops := rfl
@[simp] theorem State.setLive_notices (c : ChanId) (l : LiveState) : (s.setLive c l).notices = s.notices := rfl
@[simp] theorem State.setLive_line (c : ChanId) (l : LiveState) : (s.setLive c l).line = s.line := rfl
@[simp] theorem State.setLive_delivery (c : ChanId) (l : LiveState) : (s.setLive c l).delivery = s.delivery := rfl
@[simp] theorem State.setLive_handler (c : ChanId) (l : LiveState) : (s.setLive c l).handler = s.handler := rfl
@[simp] theorem State.setLive_resetHeld (c : ChanId) (l : LiveState) : (s.setLive c l).resetHeld = s.resetHeld := rfl
@[simp] theorem State.setLive_choices (c : ChanId) (l : LiveState) : (s.setLive c l).choices = s.choices := rfl
@[simp] theorem State.setLive_pending (c : ChanId) (l : LiveState) : (s.setLive c l).pending = s.pending := rfl

/-! ### writeConfig -/

@[simp] theorem State.writeConfig_res (c : ChanId) (k : ChannelConfig) : (s.writeConfig c k).res = s.res := rfl
@[simp] theorem State.writeConfig_queue (c : ChanId) (k : ChannelConfig) : (s.writeConfig c k).queue = s.queue := rfl
@[simp] theorem State.writeConfig_seq (c : ChanId) (k : ChannelConfig) : (s.writeConfig c k).seq = s.seq := rfl
@[simp] theorem State.writeConfig_locks (c : ChanId) (k : ChannelConfig) : (s.writeConfig c k).locks = s.locks := rfl
@[simp] theorem State.writeConfig_ops (c : ChanId) (k : ChannelConfig) : (s.writeConfig c k).ops = s.ops := rfl
@[simp] theorem State.writeConfig_notices (c : ChanId) (k : ChannelConfig) : (s.writeConfig c k).notices = s.notices := rfl
@[simp] theorem State.writeConfig_line (c : ChanId) (k : ChannelConfig) : (s.writeConfig c k).line = s.line := rfl
@[simp] theorem State.writeConfig_delivery (c : ChanId) (k : ChannelConfig) : (s.writeConfig c k).delivery = s.delivery := rfl
@[simp] theorem State.writeConfig_handler (c : ChanId) (k : ChannelConfig) : (s.writeConfig c k).handler = s.handler := rfl
@[simp] theorem State.writeConfig_resetHeld (c : ChanId) (k : ChannelConfig) : (s.writeConfig c k).resetHeld = s.resetHeld := rfl
@[simp] theorem State.writeConfig_choices (c : ChanId) (k : ChannelConfig) : (s.writeConfig c k).choices = s.choices := rfl
@[simp] theorem State.writeConfig_pending (c : ChanId) (k : ChannelConfig) : (s.writeConfig c k).pending = s.pending := rfl

/-! ### setReceiver -/

@[simp] theorem State.setReceiver_res (r : Receiver) : (s.setReceiver r).res = s.res := rfl
@[simp] theorem State.setReceiver_queue (r : Receiver) : (s.setReceiver r).queue = s.queue := rfl
@[simp] theorem State.setReceiver_seq (r : Receiver) : (s.setReceiver r).seq = s.seq := rfl
@[simp] theorem State.setReceiver_channels (r : Receiver) : (s.setReceiver r).channels = s.channels := rfl
@[simp] theorem State.setReceiver_locks (r : Receiver) : (s.setReceiver r).locks = s.locks := rfl
@[simp] theorem State.setReceiver_ops (r : Receiver) : (s.setReceiver r).ops = s.ops := rfl
@[simp] theorem State.setReceiver_notices (r : Receiver) : (s.setReceiver r).notices = s.notices := rfl
@[simp] theorem State.setReceiver_delivery (r : Receiver) : (s.setReceiver r).delivery = s.delivery := rfl
@[simp] theorem State.setReceiver_handler (r : Receiver) : (s.setReceiver r).handler = s.handler := rfl
@[simp] theorem State.setReceiver_resetHeld (r : Receiver) : (s.setReceiver r).resetHeld = s.resetHeld := rfl
@[simp] theorem State.setReceiver_choices (r : Receiver) : (s.setReceiver r).choices = s.choices := rfl
@[simp] theorem State.setReceiver_pending (r : Receiver) : (s.setReceiver r).pending = s.pending := rfl

/-! ### discardFrame -/

@[simp] theorem State.discardFrame_res (k : DiscardCause) : (s.discardFrame k).res = s.res := rfl
@[simp] theorem State.discardFrame_queue (k : DiscardCause) : (s.discardFrame k).queue = s.queue := rfl
@[simp] theorem State.discardFrame_seq (k : DiscardCause) : (s.discardFrame k).seq = s.seq := rfl
@[simp] theorem State.discardFrame_channels (k : DiscardCause) : (s.discardFrame k).channels = s.channels := rfl
@[simp] theorem State.discardFrame_locks (k : DiscardCause) : (s.discardFrame k).locks = s.locks := rfl
@[simp] theorem State.discardFrame_ops (k : DiscardCause) : (s.discardFrame k).ops = s.ops := rfl
@[simp] theorem State.discardFrame_notices (k : DiscardCause) : (s.discardFrame k).notices = s.notices := rfl
@[simp] theorem State.discardFrame_delivery (k : DiscardCause) : (s.discardFrame k).delivery = s.delivery := rfl
@[simp] theorem State.discardFrame_handler (k : DiscardCause) : (s.discardFrame k).handler = s.handler := rfl
@[simp] theorem State.discardFrame_resetHeld (k : DiscardCause) : (s.discardFrame k).resetHeld = s.resetHeld := rfl
@[simp] theorem State.discardFrame_choices (k : DiscardCause) : (s.discardFrame k).choices = s.choices := rfl
@[simp] theorem State.discardFrame_pending (k : DiscardCause) : (s.discardFrame k).pending = s.pending := rfl

/-! ### transmit -/

@[simp] theorem State.transmit_res (k : TxSource) (f : Frame) : (s.transmit k f).res = s.res := rfl
@[simp] theorem State.transmit_queue (k : TxSource) (f : Frame) : (s.transmit k f).queue = s.queue := rfl
@[simp] theorem State.transmit_seq (k : TxSource) (f : Frame) : (s.transmit k f).seq = s.seq := rfl
@[simp] theorem State.transmit_channels (k : TxSource) (f : Frame) : (s.transmit k f).channels = s.channels := rfl
@[simp] theorem State.transmit_locks (k : TxSource) (f : Frame) : (s.transmit k f).locks = s.locks := rfl
@[simp] theorem State.transmit_ops (k : TxSource) (f : Frame) : (s.transmit k f).ops = s.ops := rfl
@[simp] theorem State.transmit_notices (k : TxSource) (f : Frame) : (s.transmit k f).notices = s.notices := rfl
@[simp] theorem State.transmit_delivery (k : TxSource) (f : Frame) : (s.transmit k f).delivery = s.delivery := rfl
@[simp] theorem State.transmit_handler (k : TxSource) (f : Frame) : (s.transmit k f).handler = s.handler := rfl
@[simp] theorem State.transmit_resetHeld (k : TxSource) (f : Frame) : (s.transmit k f).resetHeld = s.resetHeld := rfl
@[simp] theorem State.transmit_choices (k : TxSource) (f : Frame) : (s.transmit k f).choices = s.choices := rfl
@[simp] theorem State.transmit_pending (k : TxSource) (f : Frame) : (s.transmit k f).pending = s.pending := rfl

/-! ### setUnit -/

@[simp] theorem State.setUnit_queue (u : UnitId) (r : Running) : (s.setUnit u r).queue = s.queue := rfl
@[simp] theorem State.setUnit_seq (u : UnitId) (r : Running) : (s.setUnit u r).seq = s.seq := rfl
@[simp] theorem State.setUnit_channels (u : UnitId) (r : Running) : (s.setUnit u r).channels = s.channels := rfl
@[simp] theorem State.setUnit_locks (u : UnitId) (r : Running) : (s.setUnit u r).locks = s.locks := rfl
@[simp] theorem State.setUnit_ops (u : UnitId) (r : Running) : (s.setUnit u r).ops = s.ops := rfl
@[simp] theorem State.setUnit_notices (u : UnitId) (r : Running) : (s.setUnit u r).notices = s.notices := rfl
@[simp] theorem State.setUnit_line (u : UnitId) (r : Running) : (s.setUnit u r).line = s.line := rfl
@[simp] theorem State.setUnit_delivery (u : UnitId) (r : Running) : (s.setUnit u r).delivery = s.delivery := rfl
@[simp] theorem State.setUnit_handler (u : UnitId) (r : Running) : (s.setUnit u r).handler = s.handler := rfl
@[simp] theorem State.setUnit_resetHeld (u : UnitId) (r : Running) : (s.setUnit u r).resetHeld = s.resetHeld := rfl
@[simp] theorem State.setUnit_choices (u : UnitId) (r : Running) : (s.setUnit u r).choices = s.choices := rfl
@[simp] theorem State.setUnit_pending (u : UnitId) (r : Running) : (s.setUnit u r).pending = s.pending := rfl

/-! ### placeReply -/

@[simp] theorem State.placeReply_res (f : Frame) : (s.placeReply f).res = s.res := rfl
@[simp] theorem State.placeReply_queue (f : Frame) : (s.placeReply f).queue = s.queue := rfl
@[simp] theorem State.placeReply_seq (f : Frame) : (s.placeReply f).seq = s.seq := rfl
@[simp] theorem State.placeReply_channels (f : Frame) : (s.placeReply f).channels = s.channels := rfl
@[simp] theorem State.placeReply_locks (f : Frame) : (s.placeReply f).locks = s.locks := rfl
@[simp] theorem State.placeReply_ops (f : Frame) : (s.placeReply f).ops = s.ops := rfl
@[simp] theorem State.placeReply_notices (f : Frame) : (s.placeReply f).notices = s.notices := rfl
@[simp] theorem State.placeReply_line (f : Frame) : (s.placeReply f).line = s.line := rfl
@[simp] theorem State.placeReply_delivery (f : Frame) : (s.placeReply f).delivery = s.delivery := rfl
@[simp] theorem State.placeReply_resetHeld (f : Frame) : (s.placeReply f).resetHeld = s.resetHeld := rfl
@[simp] theorem State.placeReply_choices (f : Frame) : (s.placeReply f).choices = s.choices := rfl
@[simp] theorem State.placeReply_pending (f : Frame) : (s.placeReply f).pending = s.pending := rfl

/-! ### endStalled -/

@[simp] theorem State.endStalled_res : (s.endStalled).res = s.res := rfl
@[simp] theorem State.endStalled_queue : (s.endStalled).queue = s.queue := rfl
@[simp] theorem State.endStalled_seq : (s.endStalled).seq = s.seq := rfl
@[simp] theorem State.endStalled_channels : (s.endStalled).channels = s.channels := rfl
@[simp] theorem State.endStalled_locks : (s.endStalled).locks = s.locks := rfl
@[simp] theorem State.endStalled_ops : (s.endStalled).ops = s.ops := rfl
@[simp] theorem State.endStalled_notices : (s.endStalled).notices = s.notices := rfl
@[simp] theorem State.endStalled_line : (s.endStalled).line = s.line := rfl
@[simp] theorem State.endStalled_handler : (s.endStalled).handler = s.handler := rfl
@[simp] theorem State.endStalled_resetHeld : (s.endStalled).resetHeld = s.resetHeld := rfl
@[simp] theorem State.endStalled_choices : (s.endStalled).choices = s.choices := rfl
@[simp] theorem State.endStalled_pending : (s.endStalled).pending = s.pending := rfl

/-! ### addRecord -/

@[simp] theorem State.addRecord_res (r : Record) : (s.addRecord r).res = s.res := rfl
@[simp] theorem State.addRecord_queue (r : Record) : (s.addRecord r).queue = s.queue := rfl
@[simp] theorem State.addRecord_seq (r : Record) : (s.addRecord r).seq = s.seq := rfl
@[simp] theorem State.addRecord_channels (r : Record) : (s.addRecord r).channels = s.channels := rfl
@[simp] theorem State.addRecord_locks (r : Record) : (s.addRecord r).locks = s.locks := rfl
@[simp] theorem State.addRecord_ops (r : Record) : (s.addRecord r).ops = s.ops := rfl
@[simp] theorem State.addRecord_line (r : Record) : (s.addRecord r).line = s.line := rfl
@[simp] theorem State.addRecord_delivery (r : Record) : (s.addRecord r).delivery = s.delivery := rfl
@[simp] theorem State.addRecord_handler (r : Record) : (s.addRecord r).handler = s.handler := rfl
@[simp] theorem State.addRecord_resetHeld (r : Record) : (s.addRecord r).resetHeld = s.resetHeld := rfl
@[simp] theorem State.addRecord_choices (r : Record) : (s.addRecord r).choices = s.choices := rfl
@[simp] theorem State.addRecord_pending (r : Record) : (s.addRecord r).pending = s.pending := rfl

/-! ### grantPass -/

@[simp] theorem State.grantPass_seq : (s.grantPass).seq = s.seq := rfl
@[simp] theorem State.grantPass_channels : (s.grantPass).channels = s.channels := rfl
@[simp] theorem State.grantPass_locks : (s.grantPass).locks = s.locks := rfl
@[simp] theorem State.grantPass_ops : (s.grantPass).ops = s.ops := rfl
@[simp] theorem State.grantPass_notices : (s.grantPass).notices = s.notices := rfl
@[simp] theorem State.grantPass_line : (s.grantPass).line = s.line := rfl
@[simp] theorem State.grantPass_delivery : (s.grantPass).delivery = s.delivery := rfl
@[simp] theorem State.grantPass_handler : (s.grantPass).handler = s.handler := rfl
@[simp] theorem State.grantPass_resetHeld : (s.grantPass).resetHeld = s.resetHeld := rfl
@[simp] theorem State.grantPass_choices : (s.grantPass).choices = s.choices := rfl
@[simp] theorem State.grantPass_pending : (s.grantPass).pending = s.pending := rfl

/-! ### enterJob -/

@[simp] theorem State.enterJob_seq (o : Origin) (c : ChanId) : (s.enterJob o c).seq = s.seq := rfl
@[simp] theorem State.enterJob_channels (o : Origin) (c : ChanId) : (s.enterJob o c).channels = s.channels := rfl
@[simp] theorem State.enterJob_locks (o : Origin) (c : ChanId) : (s.enterJob o c).locks = s.locks := rfl
@[simp] theorem State.enterJob_ops (o : Origin) (c : ChanId) : (s.enterJob o c).ops = s.ops := rfl
@[simp] theorem State.enterJob_notices (o : Origin) (c : ChanId) : (s.enterJob o c).notices = s.notices := rfl
@[simp] theorem State.enterJob_line (o : Origin) (c : ChanId) : (s.enterJob o c).line = s.line := rfl
@[simp] theorem State.enterJob_delivery (o : Origin) (c : ChanId) : (s.enterJob o c).delivery = s.delivery := rfl
@[simp] theorem State.enterJob_handler (o : Origin) (c : ChanId) : (s.enterJob o c).handler = s.handler := rfl
@[simp] theorem State.enterJob_resetHeld (o : Origin) (c : ChanId) : (s.enterJob o c).resetHeld = s.resetHeld := rfl
@[simp] theorem State.enterJob_choices (o : Origin) (c : ChanId) : (s.enterJob o c).choices = s.choices := rfl
@[simp] theorem State.enterJob_pending (o : Origin) (c : ChanId) : (s.enterJob o c).pending = s.pending := rfl

/-! ### roundBegin -/

@[simp] theorem State.roundBegin_res : (s.roundBegin).res = s.res := rfl
@[simp] theorem State.roundBegin_queue : (s.roundBegin).queue = s.queue := rfl
@[simp] theorem State.roundBegin_channels : (s.roundBegin).channels = s.channels := rfl
@[simp] theorem State.roundBegin_locks : (s.roundBegin).locks = s.locks := rfl
@[simp] theorem State.roundBegin_ops : (s.roundBegin).ops = s.ops := rfl
@[simp] theorem State.roundBegin_notices : (s.roundBegin).notices = s.notices := rfl
@[simp] theorem State.roundBegin_line : (s.roundBegin).line = s.line := rfl
@[simp] theorem State.roundBegin_delivery : (s.roundBegin).delivery = s.delivery := rfl
@[simp] theorem State.roundBegin_handler : (s.roundBegin).handler = s.handler := rfl
@[simp] theorem State.roundBegin_resetHeld : (s.roundBegin).resetHeld = s.resetHeld := rfl
@[simp] theorem State.roundBegin_choices : (s.roundBegin).choices = s.choices := rfl
@[simp] theorem State.roundBegin_pending : (s.roundBegin).pending = s.pending := rfl

/-! ### passEntry -/

@[simp] theorem State.passEntry_res : (s.passEntry).res = s.res := rfl
@[simp] theorem State.passEntry_queue : (s.passEntry).queue = s.queue := rfl
@[simp] theorem State.passEntry_channels : (s.passEntry).channels = s.channels := rfl
@[simp] theorem State.passEntry_locks : (s.passEntry).locks = s.locks := rfl
@[simp] theorem State.passEntry_ops : (s.passEntry).ops = s.ops := rfl
@[simp] theorem State.passEntry_notices : (s.passEntry).notices = s.notices := rfl
@[simp] theorem State.passEntry_line : (s.passEntry).line = s.line := rfl
@[simp] theorem State.passEntry_delivery : (s.passEntry).delivery = s.delivery := rfl
@[simp] theorem State.passEntry_handler : (s.passEntry).handler = s.handler := rfl
@[simp] theorem State.passEntry_resetHeld : (s.passEntry).resetHeld = s.resetHeld := rfl
@[simp] theorem State.passEntry_choices : (s.passEntry).choices = s.choices := rfl
@[simp] theorem State.passEntry_pending : (s.passEntry).pending = s.pending := rfl

/-! ### issueEntry -/

@[simp] theorem State.issueEntry_channels (e : ScanEntry) : (s.issueEntry e).channels = s.channels := rfl
@[simp] theorem State.issueEntry_locks (e : ScanEntry) : (s.issueEntry e).locks = s.locks := rfl
@[simp] theorem State.issueEntry_ops (e : ScanEntry) : (s.issueEntry e).ops = s.ops := rfl
@[simp] theorem State.issueEntry_notices (e : ScanEntry) : (s.issueEntry e).notices = s.notices := rfl
@[simp] theorem State.issueEntry_line (e : ScanEntry) : (s.issueEntry e).line = s.line := rfl
@[simp] theorem State.issueEntry_delivery (e : ScanEntry) : (s.issueEntry e).delivery = s.delivery := rfl
@[simp] theorem State.issueEntry_handler (e : ScanEntry) : (s.issueEntry e).handler = s.handler := rfl
@[simp] theorem State.issueEntry_resetHeld (e : ScanEntry) : (s.issueEntry e).resetHeld = s.resetHeld := rfl
@[simp] theorem State.issueEntry_choices (e : ScanEntry) : (s.issueEntry e).choices = s.choices := rfl
@[simp] theorem State.issueEntry_pending (e : ScanEntry) : (s.issueEntry e).pending = s.pending := rfl

/-! ### beginRun -/

@[simp] theorem State.beginRun_res (m : SeqMode) : (s.beginRun m).res = s.res := rfl
@[simp] theorem State.beginRun_queue (m : SeqMode) : (s.beginRun m).queue = s.queue := rfl
@[simp] theorem State.beginRun_channels (m : SeqMode) : (s.beginRun m).channels = s.channels := rfl
@[simp] theorem State.beginRun_locks (m : SeqMode) : (s.beginRun m).locks = s.locks := rfl
@[simp] theorem State.beginRun_ops (m : SeqMode) : (s.beginRun m).ops = s.ops := rfl
@[simp] theorem State.beginRun_notices (m : SeqMode) : (s.beginRun m).notices = s.notices := rfl
@[simp] theorem State.beginRun_line (m : SeqMode) : (s.beginRun m).line = s.line := rfl
@[simp] theorem State.beginRun_delivery (m : SeqMode) : (s.beginRun m).delivery = s.delivery := rfl
@[simp] theorem State.beginRun_handler (m : SeqMode) : (s.beginRun m).handler = s.handler := rfl
@[simp] theorem State.beginRun_resetHeld (m : SeqMode) : (s.beginRun m).resetHeld = s.resetHeld := rfl
@[simp] theorem State.beginRun_choices (m : SeqMode) : (s.beginRun m).choices = s.choices := rfl
@[simp] theorem State.beginRun_pending (m : SeqMode) : (s.beginRun m).pending = s.pending := rfl

/-! ### acceptOperation -/

@[simp] theorem State.acceptOperation_res (k : OpKind) (p : List Byte) : (s.acceptOperation k p).res = s.res := rfl
@[simp] theorem State.acceptOperation_queue (k : OpKind) (p : List Byte) : (s.acceptOperation k p).queue = s.queue := rfl
@[simp] theorem State.acceptOperation_seq (k : OpKind) (p : List Byte) : (s.acceptOperation k p).seq = s.seq := rfl
@[simp] theorem State.acceptOperation_channels (k : OpKind) (p : List Byte) : (s.acceptOperation k p).channels = s.channels := rfl
@[simp] theorem State.acceptOperation_locks (k : OpKind) (p : List Byte) : (s.acceptOperation k p).locks = s.locks := rfl
@[simp] theorem State.acceptOperation_notices (k : OpKind) (p : List Byte) : (s.acceptOperation k p).notices = s.notices := rfl
@[simp] theorem State.acceptOperation_line (k : OpKind) (p : List Byte) : (s.acceptOperation k p).line = s.line := rfl
@[simp] theorem State.acceptOperation_delivery (k : OpKind) (p : List Byte) : (s.acceptOperation k p).delivery = s.delivery := rfl
@[simp] theorem State.acceptOperation_handler (k : OpKind) (p : List Byte) : (s.acceptOperation k p).handler = s.handler := rfl
@[simp] theorem State.acceptOperation_resetHeld (k : OpKind) (p : List Byte) : (s.acceptOperation k p).resetHeld = s.resetHeld := rfl
@[simp] theorem State.acceptOperation_choices (k : OpKind) (p : List Byte) : (s.acceptOperation k p).choices = s.choices := rfl
@[simp] theorem State.acceptOperation_pending (k : OpKind) (p : List Byte) : (s.acceptOperation k p).pending = s.pending := rfl

/-! ### flush -/

@[simp] theorem State.flush_res (k : FlushScope) : (s.flush k).res = s.res := rfl
@[simp] theorem State.flush_queue (k : FlushScope) : (s.flush k).queue = s.queue := rfl
@[simp] theorem State.flush_seq (k : FlushScope) : (s.flush k).seq = s.seq := rfl
@[simp] theorem State.flush_channels (k : FlushScope) : (s.flush k).channels = s.channels := rfl
@[simp] theorem State.flush_locks (k : FlushScope) : (s.flush k).locks = s.locks := rfl
@[simp] theorem State.flush_ops (k : FlushScope) : (s.flush k).ops = s.ops := rfl
@[simp] theorem State.flush_line (k : FlushScope) : (s.flush k).line = s.line := rfl
@[simp] theorem State.flush_handler (k : FlushScope) : (s.flush k).handler = s.handler := rfl
@[simp] theorem State.flush_resetHeld (k : FlushScope) : (s.flush k).resetHeld = s.resetHeld := rfl
@[simp] theorem State.flush_choices (k : FlushScope) : (s.flush k).choices = s.choices := rfl
@[simp] theorem State.flush_pending (k : FlushScope) : (s.flush k).pending = s.pending := rfl

/-! ### What the writes put in place -/

@[simp] theorem State.setLive_live (c : ChanId) (l : LiveState) : ((s.setLive c l).channels[c]).live = l := by
  simp [State.setLive]

@[simp] theorem State.setLive_config (c d : ChanId) (l : LiveState) :
    ((s.setLive c l).channels[d]).config = (s.channels[d]).config := by
  by_cases h : c = d
  · subst h; simp [State.setLive]
  · have : c.val ≠ d.val := fun e => h (Fin.ext e)
    simp [State.setLive, Vector.getElem_set_ne, this]

theorem State.setLive_other (c d : ChanId) (l : LiveState) (h : c ≠ d) :
    (s.setLive c l).channels[d] = s.channels[d] := by
  have : c.val ≠ d.val := fun e => h (Fin.ext e)
  simp [State.setLive, Vector.getElem_set_ne, this]

theorem State.writeConfig_self (c : ChanId) (k : ChannelConfig) :
    (s.writeConfig c k).channels[c] = { config := k, live := LiveState.cleared k.initialState } := by
  simp [State.writeConfig]

theorem State.writeConfig_other (c d : ChanId) (k : ChannelConfig) (h : c ≠ d) :
    (s.writeConfig c k).channels[d] = s.channels[d] := by
  have : c.val ≠ d.val := fun e => h (Fin.ext e)
  simp [State.writeConfig, Vector.getElem_set_ne, this]

theorem State.setUnit_self (u : UnitId) (r : Running) : (s.setUnit u r).res.units[u] = some r := by
  simp [State.setUnit]

theorem State.setUnit_other (u v : UnitId) (r : Running) (h : u ≠ v) :
    (s.setUnit u r).res.units[v] = s.res.units[v] := by
  have : u.val ≠ v.val := fun e => h (Fin.ext e)
  simp [State.setUnit, Vector.getElem_set_ne, this]

end Sys2Proof.Machine
end

