-- ==== Sys2Proof/Laws/Frame.lean ====
section
/-! SUPPORT. What the operations of the arbiter and of the two producers leave alone: a grant pass, an issue, a drive, a
withdrawal and a wake reach neither the channels and locks, nor the link, nor the request handler. -/

namespace Sys2Proof.Machine

/-- `t` has the channels, the locks, the line, the delivery, the handler, the RESET level and the command queue of `s`. -/
structure State.SameBeyondJobs (s t : State) : Prop where
  channels : t.channels = s.channels
  locks : t.locks = s.locks
  line : t.line = s.line
  delivery : t.delivery = s.delivery
  handler : t.handler = s.handler
  resetHeld : t.resetHeld = s.resetHeld
  pending : t.pending = s.pending

namespace State.SameBeyondJobs

theorem refl (s : State) : s.SameBeyondJobs s := ⟨rfl, rfl, rfl, rfl, rfl, rfl, rfl⟩

theorem trans {s t u : State} (h : s.SameBeyondJobs t) (k : t.SameBeyondJobs u) : s.SameBeyondJobs u :=
  ⟨k.channels.trans h.channels, k.locks.trans h.locks, k.line.trans h.line, k.delivery.trans h.delivery,
    k.handler.trans h.handler, k.resetHeld.trans h.resetHeld, k.pending.trans h.pending⟩

end State.SameBeyondJobs

open State (SameBeyondJobs)

theorem State.grantPass_same (s : State) : s.SameBeyondJobs s.grantPass := ⟨rfl, rfl, rfl, rfl, rfl, rfl, rfl⟩

theorem State.enterJob_same (o : Origin) (c : ChanId) (s : State) : s.SameBeyondJobs (s.enterJob o c) :=
  ⟨rfl, rfl, rfl, rfl, rfl, rfl, rfl⟩

theorem State.issueEntry_same (e : ScanEntry) (s : State) : s.SameBeyondJobs (s.issueEntry e) :=
  ⟨rfl, rfl, rfl, rfl, rfl, rfl, rfl⟩

theorem State.passEntry_same (s : State) : s.SameBeyondJobs s.passEntry := ⟨rfl, rfl, rfl, rfl, rfl, rfl, rfl⟩

theorem State.roundBegin_same (s : State) : s.SameBeyondJobs s.roundBegin := ⟨rfl, rfl, rfl, rfl, rfl, rfl, rfl⟩

theorem State.beginRun_same (m : SeqMode) (s : State) : s.SameBeyondJobs (s.beginRun m) :=
  ⟨rfl, rfl, rfl, rfl, rfl, rfl, rfl⟩

theorem State.addRecord_same (r : Record) (s : State) : s.SameBeyondJobs (s.addRecord r) :=
  ⟨rfl, rfl, rfl, rfl, rfl, rfl, rfl⟩

theorem State.issueSample_same (o : Operation) (s : State) : s.SameBeyondJobs (s.issueSample o) := by
  unfold State.issueSample
  split
  · exact .refl s
  · exact ⟨rfl, rfl, rfl, rfl, rfl, rfl, rfl⟩

theorem State.completeRound_same (s : State) : s.SameBeyondJobs s.completeRound := by
  unfold State.completeRound
  split
  · exact ⟨rfl, rfl, rfl, rfl, rfl, rfl, rfl⟩
  · split <;> exact ⟨rfl, rfl, rfl, rfl, rfl, rfl, rfl⟩
  · split <;> exact ⟨rfl, rfl, rfl, rfl, rfl, rfl, rfl⟩
  · exact ⟨rfl, rfl, rfl, rfl, rfl, rfl, rfl⟩

theorem State.completeIfOver_same (s : State) : s.SameBeyondJobs s.completeIfOver := by
  unfold State.completeIfOver
  split
  · exact s.completeRound_same
  · exact .refl s

theorem State.endReport_same (entry round : Nat) (s : State) : s.SameBeyondJobs (s.endReport entry round) := by
  unfold State.endReport
  split
  · refine State.SameBeyondJobs.trans ?_ (State.completeIfOver_same _)
    exact ⟨rfl, rfl, rfl, rfl, rfl, rfl, rfl⟩
  · exact .refl s

theorem State.countChoice_same (s : State) : s.SameBeyondJobs s.countChoice := ⟨rfl, rfl, rfl, rfl, rfl, rfl, rfl⟩

theorem State.driveFor_same (fuel : Nat) (arrived : Bool) (s : State) :
    s.SameBeyondJobs (s.driveFor fuel arrived) := by
  induction fuel generalizing arrived s with
  | zero => exact .refl s
  | succ n ih =>
    unfold State.driveFor
    split
    · exact s.completeRound_same.trans (ih _ _)
    · exact s.passEntry_same.trans (ih _ _)
    · exact (s.issueEntry_same _).trans (ih _ _)
    · exact (s.issueSample_same _).trans (ih _ _)
    · split
      · exact (s.countChoice_same.trans (State.issueEntry_same _ _)).trans (ih _ _)
      · exact (s.countChoice_same.trans (State.issueSample_same _ _)).trans (ih _ _)
    · exact .refl s

theorem State.drive_same (s : State) : s.SameBeyondJobs s.drive := s.driveFor_same _ _

theorem State.fillFor_same (fuel : Nat) (s : State) : s.SameBeyondJobs (s.fillFor fuel) := by
  induction fuel generalizing s with
  | zero => exact .refl s
  | succ n ih =>
    unfold State.fillFor
    split
    · exact (s.issueSample_same _).trans (ih _)
    · exact .refl s

theorem State.endWithout_same (j : Job) (s : State) : s.SameBeyondJobs (s.endWithout j) := by
  unfold State.endWithout
  split
  · exact s.endReport_same _ _
  · exact ⟨rfl, rfl, rfl, rfl, rfl, rfl, rfl⟩

theorem State.abortUnit_same (named : Job → Bool) (u : UnitId) (s : State) :
    s.SameBeyondJobs (s.abortUnit named u) := by
  unfold State.abortUnit
  split
  · exact .refl s
  · split
    · refine State.SameBeyondJobs.trans ?_ (State.endWithout_same _ _)
      exact ⟨rfl, rfl, rfl, rfl, rfl, rfl, rfl⟩
    · exact .refl s

/-- A fold of operations that each leave the rest alone leaves the rest alone. -/
theorem State.foldl_same {α : Type} (f : State → α → State) (hf : ∀ (s : State) (a : α), s.SameBeyondJobs (f s a)) (xs : List α)
    (s : State) : s.SameBeyondJobs (xs.foldl f s) := by
  induction xs generalizing s with
  | nil => exact .refl s
  | cons x xs ih => exact (hf s x).trans (ih _)

theorem State.withdraw_same (named : Job → Bool) (s : State) : s.SameBeyondJobs (s.withdraw named) := by
  have removed : s.SameBeyondJobs
      ((s.queue.filter named).foldl (fun t j => t.endWithout j)
        { s with queue := s.queue.filter fun j => !named j }) := by
    refine State.SameBeyondJobs.trans ?_ (State.foldl_same _ (fun t j => t.endWithout_same j) _ _)
    exact ⟨rfl, rfl, rfl, rfl, rfl, rfl, rfl⟩
  have aborted := removed.trans
    (State.foldl_same (fun t u => t.abortUnit named u) (fun t u => t.abortUnit_same named u) [0, 1, 2, 3] _)
  unfold State.withdraw
  dsimp only
  split
  · exact aborted.trans (State.grantPass_same _)
  · exact aborted

theorem State.abandon_same (s : State) : s.SameBeyondJobs s.abandon := by
  unfold State.abandon
  refine State.SameBeyondJobs.trans ?_ (State.drive_same _)
  refine State.SameBeyondJobs.trans ?_ (State.withdraw_same _ _)
  exact ⟨rfl, rfl, rfl, rfl, rfl, rfl, rfl⟩

theorem State.startPaced_same (m : SeqMode) (period : Nat) (s : State) :
    s.SameBeyondJobs (s.startPaced m period) := by
  unfold State.startPaced
  refine State.SameBeyondJobs.trans ?_ (State.drive_same _)
  exact ⟨rfl, rfl, rfl, rfl, rfl, rfl, rfl⟩

theorem State.wake_same (r : WakeReason) (s : State) : s.SameBeyondJobs (s.wake r) := by
  unfold State.wake
  split
  · exact ((State.addRecord_same _ s).trans (State.abandon_same _)).trans (State.startPaced_same _ _ _)
  · exact .refl s

end Sys2Proof.Machine
end

