-- ==== Sys2Proof/Laws/Operations.lean ====
section
/-! SUPPORT. One lemma for each shared operation that says once everything it can do. -/

namespace Sys2Proof.Machine

/-! ## Notice queue (R142 to R145) -/

/-- What the arrival of a record can do: coalesce, append, be discarded as a reading, displace a reading, or be
discarded with its kind counted. -/
theorem NoticeQueue.arrive_cases (r : Record) (q : NoticeQueue) :
    (∃ rs, coalesceRecord r q.records = some rs ∧ q.arrive r = ({ q with records := rs }, true)) ∨
    (coalesceRecord r q.records = none ∧ q.records.length < Config.noticeCapacity ∧
      q.arrive r = ({ q with records := q.records ++ [r] }, true)) ∨
    (coalesceRecord r q.records = none ∧ Config.noticeCapacity ≤ q.records.length ∧ r.isResult = true ∧
      q.arrive r = ({ q with tally := q.tally.countResult }, false)) ∨
    (∃ rest, coalesceRecord r q.records = none ∧ Config.noticeCapacity ≤ q.records.length ∧ r.isResult = false ∧
      withoutOldestResult q.records = some rest ∧
      q.arrive r = ({ records := rest ++ [r], tally := q.tally.countResult }, true)) ∨
    (coalesceRecord r q.records = none ∧ Config.noticeCapacity ≤ q.records.length ∧ r.isResult = false ∧
      withoutOldestResult q.records = none ∧
      q.arrive r = ({ q with tally := q.tally.countDiscard r }, false)) := by
  unfold NoticeQueue.arrive
  cases hc : coalesceRecord r q.records with
  | some rs => exact .inl ⟨rs, rfl, rfl⟩
  | none =>
    refine .inr ?_
    by_cases hl : q.records.length < Config.noticeCapacity
    · exact .inl ⟨rfl, hl, by simp [hl]⟩
    · refine .inr ?_
      have hge : Config.noticeCapacity ≤ q.records.length := Nat.le_of_not_lt hl
      simp only [if_neg hl, NoticeQueue.arriveFull]
      by_cases hr : r.isResult = true
      · exact .inl ⟨trivial, hge, hr, by simp [hr, Tally.countDiscard]⟩
      · have hr' : r.isResult = false := by simpa using hr
        refine .inr ?_
        simp only [hr']
        cases hw : withoutOldestResult q.records with
        | some rest => exact .inl ⟨rest, trivial, hge, trivial, rfl, by simp⟩
        | none => exact .inr ⟨trivial, hge, trivial, rfl, by simp⟩

/-! ## Grants (R45, R47) -/

/-- What a grantable job is offered: the lowest free unit, and for an oscillator source the lowest free cell. -/
theorem Resources.offer_some {watch : Bool} {j : Job} {res : Resources} {u : UnitId} {cell : Option CellId}
    (h : res.offer watch j = some (u, cell)) :
    res.freeUnit watch = some u ∧ res.claims[j.snapshot.pin].admits j.snapshot.source.isOsc = true ∧
      (j.snapshot.source.isOsc = true → ∃ c, res.freeCell watch = some c ∧ cell = some c) ∧
      (j.snapshot.source.isOsc = false → cell = none) := by
  unfold Resources.offer at h
  cases hu : res.freeUnit watch with
  | none => simp [hu] at h
  | some v =>
    simp only [hu] at h
    by_cases ha : res.claims[j.snapshot.pin].admits j.snapshot.source.isOsc = true
    · by_cases ho : j.snapshot.source.isOsc = true
      · rw [if_pos ha, if_pos ho] at h
        cases hc : res.freeCell watch with
        | none => simp [hc] at h
        | some c =>
          simp only [hc, Option.map_some, Option.some.injEq, Prod.mk.injEq] at h
          obtain ⟨rfl, rfl⟩ := h
          exact ⟨rfl, ha, fun _ => ⟨c, rfl, rfl⟩, fun hf => by simp [ho] at hf⟩
      · rw [if_pos ha, if_neg ho] at h
        simp only [Option.some.injEq, Prod.mk.injEq] at h
        obtain ⟨rfl, rfl⟩ := h
        exact ⟨rfl, ha, fun ht => absurd ht ho, fun _ => rfl⟩
    · rw [if_neg ha] at h
      exact absurd h (by simp)

/-- A free unit of an offer is free, and CU0 in WATCH. -/
theorem Resources.freeUnit_some {watch : Bool} {res : Resources} {u : UnitId} (h : res.freeUnit watch = some u) :
    res.units[u] = none ∧ (watch = true → u = 0) := by
  unfold Resources.freeUnit at h
  have free : res.units[u].isNone = true := by simpa using List.find?_some h
  have mem := List.mem_of_find?_eq_some h
  refine ⟨by simpa using free, fun hw => ?_⟩
  subst hw
  simpa [grantableUnits] using mem

/-- A free cell of an offer is free, and OC0 in WATCH. -/
theorem Resources.freeCell_some {watch : Bool} {res : Resources} {c : CellId} (h : res.freeCell watch = some c) :
    res.cells[c] = none ∧ (watch = true → c = 0) := by
  unfold Resources.freeCell at h
  have free : res.cells[c].isNone = true := by simpa using List.find?_some h
  have mem := List.mem_of_find?_eq_some h
  refine ⟨by simpa using free, fun hw => ?_⟩
  subst hw
  simpa [grantableCells] using mem

/-- The walk keeps the order of the jobs and drops none: the jobs it marks are the jobs it was given. -/
theorem grantWalk_jobs (watch : Bool) (js : List Job) (res : Resources) :
    (grantWalk watch js res).1.map Prod.fst = js := by
  induction js generalizing res with
  | nil => rfl
  | cons j js ih =>
    unfold grantWalk
    split
    · simp [ih]
    · split
      · simp [ih]
      · simp [Function.comp_def]

/-- What is not admitted at a pin is not admitted there after one more claim. -/
theorem PinClaim.taken_admits {c : PinClaim} {osc : Bool} (h : c.admits osc = false) (o : Bool) (u : UnitId) :
    (c.taken o u).admits osc = false := by
  cases c <;> cases o <;> cases osc <;> simp_all [PinClaim.admits, PinClaim.taken]

/-- A vector read at one index after it has been set at another. -/
theorem getElem_set_fin {α : Type} {n : Nat} (xs : Vector α n) (i j : Fin n) (x : α) :
    (xs.set i x)[j] = if i = j then x else xs[j] := by
  simp only [Fin.getElem_fin, Vector.getElem_set, Fin.ext_iff]

/-- A grant makes no claim entry admit what it did not admit. -/
theorem Resources.admits_grant {res : Resources} {p : PinId} {osc : Bool} (h : res.claims[p].admits osc = false)
    (k : Job) (u : UnitId) (cell : Option CellId) : ((res.grant k u cell).claims[p]).admits osc = false := by
  unfold Resources.grant
  rw [getElem_set_fin]
  split
  · next hp =>
    subst hp
    exact PinClaim.taken_admits h _ _
  · exact h

/-- A grant frees no unit. -/
theorem Resources.freeUnit_grant {watch : Bool} {res : Resources} (h : res.freeUnit watch = none) (k : Job) (u : UnitId)
    (cell : Option CellId) : (res.grant k u cell).freeUnit watch = none := by
  unfold Resources.freeUnit Resources.grant at *
  rw [List.find?_eq_none] at h ⊢
  intro v hv
  rw [getElem_set_fin]
  split
  · simp
  · exact h v hv

/-- A grant frees no cell. -/
theorem Resources.freeCell_grant {watch : Bool} {res : Resources} (h : res.freeCell watch = none) (k : Job) (u : UnitId)
    (cell : Option CellId) : (res.grant k u cell).freeCell watch = none := by
  unfold Resources.freeCell Resources.grant at *
  rw [List.find?_eq_none] at h ⊢
  intro v hv
  cases cell with
  | none => exact h v hv
  | some c =>
    simp only [setCell]
    rw [getElem_set_fin]
    split
    · simp
    · exact h v hv

/-- A grant makes no other job grantable. -/
theorem Resources.offer_grant {watch : Bool} {j : Job} {res : Resources} (h : res.offer watch j = none) (k : Job)
    (u : UnitId) (cell : Option CellId) : (res.grant k u cell).offer watch j = none := by
  by_cases hu : res.freeUnit watch = none
  · simp [Resources.offer, Resources.freeUnit_grant hu]
  · by_cases ha : res.claims[j.snapshot.pin].admits j.snapshot.source.isOsc = false
    · unfold Resources.offer
      rw [Resources.admits_grant ha]
      split <;> rfl
    · obtain ⟨w, hw⟩ := Option.ne_none_iff_exists'.mp hu
      rw [Bool.not_eq_false] at ha
      simp only [Resources.offer, hw, ha, if_true] at h
      by_cases ho : j.snapshot.source.isOsc = true
      · simp only [ho, if_true, Option.map_eq_none_iff] at h
        simp only [Resources.offer, Resources.freeCell_grant h, ho, if_true]
        split
        · rfl
        · split <;> rfl
      · simp [ho] at h

/-- A job without an offer has none after a walk either. -/
theorem offer_grantWalk {watch : Bool} {j : Job} (js : List Job) {res : Resources} (h : res.offer watch j = none) :
    (grantWalk watch js res).2.offer watch j = none := by
  induction js generalizing res with
  | nil => exact h
  | cons k ks ih =>
    unfold grantWalk
    split
    · exact ih (Resources.offer_grant h _ _ _)
    · split
      · exact ih h
      · exact h

/-- Without a granted job the jobs stay waiting as they are (R49). -/
theorem raisePassCounts_none (marks : List (Job × Bool)) (h : ∀ x ∈ marks, x.2 = false) :
    raisePassCounts marks = (marks.map Prod.fst, false) := by
  induction marks with
  | nil => rfl
  | cons x xs ih =>
    obtain ⟨j, g⟩ := x
    have hg : g = false := h _ List.mem_cons_self
    subst hg
    simp [raisePassCounts, ih fun y hy => h y (List.mem_cons_of_mem _ hy)]

/-- A walk that grants nothing leaves the resources as they are. -/
theorem grantWalk_idle {watch : Bool} (js : List Job) {res : Resources}
    (h : ∀ x ∈ (grantWalk watch js res).1, x.2 = false) :
    (grantWalk watch js res).2 = res := by
  induction js generalizing res with
  | nil => rfl
  | cons k ks ih =>
    unfold grantWalk at h ⊢
    split at h
    · exact absurd (h _ List.mem_cons_self) (by simp)
    · split at h
      · next hk => simpa [hk] using ih fun y hy => h y (List.mem_cons_of_mem _ hy)
      · next hk => simp [hk]

/-- A second walk over what a pass leaves waiting grants nothing. -/
theorem grantWalk_again (watch : Bool) (js : List Job) (res : Resources) :
    ∀ x ∈ (grantWalk watch (raisePassCounts (grantWalk watch js res).1).1 (grantWalk watch js res).2).1,
      x.2 = false := by
  induction js generalizing res with
  | nil => simp [grantWalk, raisePassCounts]
  | cons j js ih =>
    cases ho : res.offer watch j with
    | some x => simpa [grantWalk, ho, raisePassCounts] using ih (res.grant j x.1 x.2)
    | none =>
      by_cases hp : j.passCount < Config.passLimit
      · have hj := offer_grantWalk js ho
        have step (j' : Job) (hs : j'.snapshot = j.snapshot) :
            ∀ x ∈ (grantWalk watch (j' :: (raisePassCounts (grantWalk watch js res).1).1)
              (grantWalk watch js res).2).1, x.2 = false := by
          have hj' : (grantWalk watch js res).2.offer watch j' = none := by
            simpa only [Resources.offer, hs] using hj
          by_cases hp' : j'.passCount < Config.passLimit
          · simpa [grantWalk, hj', hp'] using ih res
          · simp [grantWalk, hj', hp']
        by_cases hr : (raisePassCounts (grantWalk watch js res).1).2 = true
        · simpa [grantWalk, ho, hp, raisePassCounts, hr] using step { j with passCount := j.passCount + 1 } rfl
        · simpa [grantWalk, ho, hp, raisePassCounts, hr] using step j rfl
      · have idle : ∀ x ∈ (grantWalk watch (j :: js) res).1, x.2 = false := by simp [grantWalk, ho, hp]
        rw [raisePassCounts_none _ idle, grantWalk_jobs, grantWalk_idle _ idle]
        exact idle

/-- A grant pass that grants nothing changes nothing (R49). -/
theorem State.grantPass_idle {s : State} (h : ∀ x ∈ (grantWalk (s.seq.mode == .watch) s.queue s.res).1, x.2 = false) :
    s.grantPass = s := by
  unfold State.grantPass
  simp only [raisePassCounts_none _ h, grantWalk_idle _ h, grantWalk_jobs]

/-- A second grant pass changes nothing: after a pass no waiting job is left that a pass would grant. -/
theorem State.grantPass_rests (s : State) : s.grantPass.GrantsRest :=
  State.grantPass_idle (grantWalk_again (s.seq.mode == .watch) s.queue s.res)

/-- The entry of a job leaves no waiting job that a pass would grant (R42). -/
theorem State.enterJob_rests (o : Origin) (c : ChanId) (s : State) : (s.enterJob o c).GrantsRest :=
  State.grantPass_rests _

/-! ## Characters (R156) -/

@[simp] theorem characterLevels_length (b : Byte) : (characterLevels b).length = bitTimesPerByte := rfl

/-- A character that is sent is received as its byte, whatever level the stop bit arrives with. -/
theorem characterByte_characterLevels (b : Byte) (stop : Bool) :
    characterByte ((characterLevels b).set 9 stop) = b := by
  revert b stop
  decide +kernel

/-- A line held low is received as 00h. -/
theorem characterByte_break : characterByte (List.replicate bitTimesPerByte false) = 0#8 := rfl

/-- TXD is high when no frame is on it. -/
theorem State.txdLevel_idle {s : State} (h : s.line.tx = none) (n : Nat) : s.txdLevel n = true := by
  simp [State.txdLevel, State.txdLevels, State.txd, h]

/-! ## ATTN (R153, R154) -/

/-- When ATTN is asserted. -/
theorem State.attn_iff (s : State) :
    s.attn = true ↔ s.resetHeld = false ∧
      (s.notices.records ≠ [] ∨ s.delivery.inFlight ≠ [] ∨ s.notices.tally.isEmpty = false) := by
  simp [State.attn, or_assoc]

/-- The part drives ATTN low exactly while it is asserted. -/
theorem State.attnDrive_low_iff (s : State) : s.attnDrive = .low ↔ s.attn = true := by
  unfold State.attnDrive
  split <;> simp [*]

/-- The ATTN line is high exactly when neither the part nor another one drives it low. -/
theorem State.attnLine_high_iff (others : List OpenDrain) (s : State) :
    s.attnLine others = true ↔ s.attn = false ∧ ∀ d ∈ others, d = .highImpedance := by
  unfold State.attnLine pulledUp State.attnDrive
  cases s.attn <;> simp

/-! ## The fields of SET_CHANNEL (R13, R186) -/

/-- Bytes spell a number below the count of values that so many bytes have. -/
theorem numberLE_lt (bs : List Byte) : numberLE bs < 256 ^ bs.length := by
  induction bs with
  | nil => decide
  | cons b bs ih =>
    have hb := b.isLt
    simp only [numberLE, List.length_cons, pow_succ]
    omega

/-- A field of `size` bytes is below the count of values that so many bytes have. -/
theorem fieldAt_lt (p : List Byte) (offset size : Nat) : fieldAt p offset size < 256 ^ size :=
  lt_of_lt_of_le (numberLE_lt _) (Nat.pow_le_pow_right (by decide) (by simp))

/-- A field of one byte is that byte. -/
theorem fieldAt_one (p : List Byte) (offset : Nat) : fieldAt p offset 1 = byteAt p offset := by
  unfold fieldAt byteAt
  rw [List.getD_eq_getElem?_getD, ← List.head?_drop]
  cases p.drop offset <;> simp [numberLE]

/-- The first failing check of a list is the first pair that says false. -/
theorem firstFailing_eq_find (xs : List (Nat × Bool)) : firstFailing xs = (xs.find? fun x => !x.2).map Prod.fst := by
  induction xs with
  | nil => rfl
  | cons x xs ih => obtain ⟨o, _ | _⟩ := x <;> simp [firstFailing, ih]

/-- A field whose range holds every value of its bytes never fails. -/
theorem FieldRange.holds_of_isFull (p : List Byte) (x : FieldRange) (h : x.isFull = true) : x.holds p = true := by
  have := fieldAt_lt p x.offset x.size
  simp only [isFull, Bool.and_eq_true, beq_iff_eq] at h
  simp only [holds, Bool.and_eq_true, decide_eq_true_eq]
  omega

/-- The range checks are those of the fields whose range leaves a value of their bytes out. -/
theorem rangeChecks_eq (p : List Byte) :
    rangeChecks p = (setChannelFields.filter fun x => !x.isFull).map fun x => (x.offset, x.holds p) := by
  simp [rangeChecks, setChannelFields, FieldRange.isFull, FieldRange.holds, inRange, fieldAt_one]

/-- The range checks refuse the first field of the table that lies outside its range. -/
theorem rangeChecks_first (p : List Byte) :
    firstFailing (rangeChecks p) = (setChannelFields.find? fun x => !x.holds p).map FieldRange.offset := by
  have full (x : FieldRange) : decide ((!x.isFull) = true ∧ (!x.holds p) = true) = !x.holds p := by
    cases h : x.isFull with
    | false => simp
    | true => simp [x.holds_of_isFull p h]
  rw [rangeChecks_eq, firstFailing_eq_find, List.find?_map, Option.map_map]
  simp only [Function.comp_def, List.find?_filter, full]

/-! ## The producers (R43, R69, R128) -/

/-- When an operation needs a job: its job outstanding is NO and its current entry is PENDING. -/
theorem Operation.needsJob_iff (o : Operation) :
    o.needsJob = true ↔ o.outstanding = false ∧ ∃ e, o.entries[o.current]? = some e ∧ e.outcome = .pending := by
  unfold Operation.needsJob Operation.currentEntry
  cases o.entries[o.current]? <;> simp [OpEntry.isPending]

/-- What is true of a state and kept by every action of the producers is true after a drive. -/
theorem State.driveFor_keeps (P : State → Prop)
    (complete : ∀ s, P s → s.seq.roundOver = true → P s.completeRound)
    (pass : ∀ s a, P s → s.skipDue a = true → P s.passEntry)
    (issue : ∀ s e, P s → s.nextScan = some e → P (s.issueEntry e))
    (sample : ∀ s o, P s → s.nextOperation = some o → P (s.issueSample o))
    (choice : ∀ s, P s → P s.countChoice)
    (fuel : Nat) (arrived : Bool) (s : State) (h : P s) : P (s.driveFor fuel arrived) := by
  induction fuel generalizing arrived s with
  | zero => exact h
  | succ n ih =>
    unfold State.driveFor
    cases hp : s.producerStep arrived with
    | rest => exact h
    | complete =>
      refine ih _ _ (complete s h ?_)
      unfold State.producerStep at hp
      by_cases ho : s.seq.roundOver = true
      · exact ho
      · rw [if_neg ho] at hp
        split at hp
        · cases hp
        · split at hp <;> cases hp
    | skip =>
      refine ih _ _ (pass s arrived h ?_)
      unfold State.producerStep at hp
      split at hp
      · cases hp
      · split at hp
        · assumption
        · split at hp <;> cases hp
    | scan e =>
      refine ih _ _ (issue s e h ?_)
      unfold State.producerStep at hp
      split at hp
      · cases hp
      · split at hp
        · cases hp
        · split at hp <;> cases hp
          assumption
    | op o =>
      refine ih _ _ (sample s o h ?_)
      unfold State.producerStep at hp
      split at hp
      · cases hp
      · split at hp
        · cases hp
        · split at hp <;> cases hp
          assumption
    | either e o =>
      have both : s.nextScan = some e ∧ s.nextOperation = some o := by
        unfold State.producerStep at hp
        split at hp
        · cases hp
        · split at hp
          · cases hp
          · split at hp <;> cases hp
            exact ⟨‹_›, ‹_›⟩
      dsimp only
      split
      · exact ih _ _ (issue _ e (choice s h) both.1)
      · exact ih _ _ (sample _ o (choice s h) both.2)

/-! ## Rounds (R57, R68) -/

/-- The indexes found by the walk over the scan list are those of its due entries whose channel may be scanned. -/
theorem State.mem_eligibleFrom (s : State) (round k i : Nat) (es : List ScanEntry) :
    i ∈ s.eligibleFrom round k es ↔
      k ≤ i ∧ ∃ e, es[i - k]? = some e ∧ e.due s.seq.mode round = true ∧ s.scannable e.channel = true := by
  induction es generalizing k with
  | nil => simp [State.eligibleFrom]
  | cons x xs ih =>
    unfold State.eligibleFrom
    rcases Nat.lt_trichotomy k i with h | rfl | h
    · have tail : (x :: xs)[i - k]? = xs[i - (k + 1)]? := by
        rw [show i - k = i - (k + 1) + 1 by omega, List.getElem?_cons_succ]
      split <;> simp [ih, tail, h, Nat.le_of_lt h, Nat.ne_of_gt h]
    · split <;> simp_all
    · split <;> simp [ih, Nat.not_le_of_lt h, show ¬ k + 1 ≤ i by omega, Nat.ne_of_lt h]

/-- The entries of a round that begins are those due and eligible in it (R68 steps 3 and 4). -/
theorem State.mem_roundBegin_eligible (s : State) (i : Nat) :
    i ∈ s.roundBegin.seq.eligible ↔ s.DueAndEligible s.seq.mode (nextRound s.seq.round) i := by
  show i ∈ s.eligibleFrom _ 0 _ ↔ _
  simp [State.mem_eligibleFrom, State.DueAndEligible, ScanEntry.due, State.scannable, imp_iff_not_or, and_assoc]

/-! ## Withdrawal (R54) -/

/-- What is true of a state and kept by the dropping of waiting jobs, by an end report, by an abort and by a grant pass is
true after a withdrawal. -/
theorem State.withdraw_keeps (P : State → Prop) (named : Job → Bool)
    (dropped : ∀ s, P s → P { s with queue := s.queue.filter fun j => !named j })
    (told : ∀ s j, P s → P (State.endWithout j s))
    (aborted : ∀ s u, P s → P (State.abortUnit named u s))
    (granted : ∀ s, P s → P s.grantPass)
    (s : State) (h : P s) : P (s.withdraw named) := by
  have fold : ∀ {α : Type} (f : State → α → State), (∀ t a, P t → P (f t a)) → ∀ (xs : List α) (t : State),
      P t → P (xs.foldl f t) := by
    intro α f hf xs
    induction xs with
    | nil => exact fun t ht => ht
    | cons x xs ih => exact fun t ht => ih _ (hf t x ht)
  have main := fold (fun t u => State.abortUnit named u t) (fun t u ht => aborted t u ht) [0, 1, 2, 3] _
    (fold (fun t j => State.endWithout j t) (fun t j ht => told t j ht) (s.queue.filter named) _ (dropped s h))
  unfold State.withdraw
  dsimp only
  split
  · exact granted _ main
  · exact main

/-! ## Units (R28 to R32) -/

/-- Over an open gate the end has not passed while the tick counter's time is at most the gate. -/
theorem Running.isPast_gate {r : Running} (h : r.gateOpen = true) :
    r.isPast = false ↔ r.tickTime ≤ r.job.snapshot.gateLength * r.job.snapshot.tickPeriod := by
  simp [Running.isPast, h]

/-- Within a span the end has not passed while the span's time is at most the timeout, and a count stands below 65535. -/
theorem Running.isPast_span {r : Running} (h : r.gateOpen = false) :
    r.isPast = false ↔
      r.spanTime ≤ r.job.snapshot.timeout * r.job.snapshot.tickPeriod ∧
        (r.phase = .count → r.ticks < Config.tickMax) := by
  simp [Running.isPast, h]

/-- When a unit takes an edge: it runs a job that passes the test, brought up to date, and the end of its gate or timeout
has not passed by then. -/
theorem State.takesEdge_some {u : UnitId} {dt : Nat} {test : Running → Bool} {s : State} {r : Running}
    (h : s.takesEdge u dt test = some r) :
    ∃ q, s.res.units[u] = some q ∧ test q = true ∧ r = q.pass dt ∧ r.isPast = false := by
  unfold State.takesEdge at h
  cases hq : s.res.units[u] with
  | none => simp [hq] at h
  | some q =>
    simp only [hq] at h
    split at h
    · rename_i hc
      simp only [Bool.and_eq_true, Bool.not_eq_eq_eq_not, Bool.not_true] at hc
      cases h
      exact ⟨q, rfl, hc.1, rfl, hc.2⟩
    · cases h

/-! ## Requests (R177) -/

/-- The handler of `s` can take the request `f` that stands before `rest`. -/
theorem State.takeRequest_cases (ofKind : Byte → Bool) (service : Service) (s : State) :
    (∃ f rest, s.handler.requests = f :: rest ∧ s.handler.canTake = true ∧ ofKind f.kind = true ∧
      s.takeRequest ofKind service = (s.beginTaking rest).answer service f) ∨
    s.takeRequest ofKind service = s := by
  unfold State.takeRequest
  cases hq : s.handler.requests with
  | nil => exact .inr rfl
  | cons f rest =>
    by_cases h : (s.handler.canTake && ofKind f.kind) = true
    · refine .inl ⟨f, rest, rfl, ?_, ?_, by simp [h]⟩
      · exact (Bool.and_eq_true _ _ ▸ h).1
      · exact (Bool.and_eq_true _ _ ▸ h).2
    · exact .inr (by simp [h])

/-- The taking of a request reaches, beyond the request queue, only what the wake and the end of STALLED reach. -/
theorem State.beginTaking_fields (rest : List Frame) (s : State) :
    (s.beginTaking rest).channels = s.channels ∧ (s.beginTaking rest).locks = s.locks ∧
      (s.beginTaking rest).line = s.line ∧ (s.beginTaking rest).delivery = s.delivery.endStalled ∧
      (s.beginTaking rest).handler = { s.handler with requests := rest } ∧
      (s.beginTaking rest).resetHeld = s.resetHeld ∧ (s.beginTaking rest).pending = s.pending := by
  have w := State.wake_same .host { s with handler := { s.handler with requests := rest } }
  refine ⟨w.channels, w.locks, w.line, ?_, w.handler, w.resetHeld, w.pending⟩
  show Delivery.endStalled _ = _
  rw [w.delivery]

/-- Outside WATCH a wake has no effect (R76). -/
theorem State.wake_outside (r : WakeReason) (s : State) (h : s.seq.mode ≠ .watch) : s.wake r = s := if_neg h

/-! ## Delivery (R168 to R173) -/

/-- Outside STALLED the end of STALLED has no effect (R171). -/
theorem Delivery.endStalled_outside (d : Delivery) (h : d.state ≠ .stalled) : d.endStalled = d := if_neg h

@[simp] theorem Delivery.beginPass_inFlight (d : Delivery) : d.beginPass.inFlight = d.inFlight := rfl
@[simp] theorem Delivery.beginPass_passSet (d : Delivery) : d.beginPass.passSet = d.inFlight := rfl
@[simp] theorem Delivery.beginPass_ackTimer (d : Delivery) : d.beginPass.ackTimer = none := rfl
@[simp] theorem Delivery.beginPass_retries (d : Delivery) : d.beginPass.retries = d.retries := rfl
@[simp] theorem Delivery.beginPass_nextSeq (d : Delivery) : d.beginPass.nextSeq = d.nextSeq := rfl
@[simp] theorem Delivery.beginPass_params (d : Delivery) : d.beginPass.params = d.params := rfl

/-- The notices younger than a named one are a young end of the list. -/
theorem youngerThan_suffix {n : Nat} {xs rest : List Notice} (h : youngerThan n xs = some rest) :
    ∃ older x, xs = older ++ x :: rest ∧ x.seq = n := by
  induction xs with
  | nil => cases h
  | cons x xs ih =>
    unfold youngerThan at h
    split at h
    · rename_i hx
      cases h
      exact ⟨[], x, rfl, hx⟩
    · obtain ⟨older, y, hy, hn⟩ := ih h
      exact ⟨x :: older, y, by rw [hy]; rfl, hn⟩

end Sys2Proof.Machine
end

