-- ==== Sys2Proof/WellFormed.lean ====
section
/-! DEFINITION. When a command is well formed. The types already bound units, bytes and speeds; what is left is the
time an edge carries. -/

namespace Sys2Proof

/-- The time, in picoseconds, that a command says has passed at its unit. -/
def Instr.elapsed : Instr → Nat
  | .settleEdge _ dt => dt
  | .gateEdge _ dt => dt
  | .armingEdge _ dt => dt
  | .periodEdge _ dt => dt
  | .intervalArmingEdge _ _ dt => dt
  | .intervalFinalEdge _ _ dt => dt
  | .powerReset _ | .pinReset _ | .softReset _ | .ping | .getStatus | .setLink | .setChannel | .getChannel
  | .setScan | .getScan | .scanStart | .scanStop | .calibrate | .measure | .abortOp | .flushNotices | .resetPart
  | .undefinedRequestKind | .ack _ | .requestFrameArrival _ | .foreignFrame _ | .lengthDiscard _ | .crcMismatch _
  | .gapTimeout | .replyTransmission | .firstTransmission | .noticeResend | .frameEnd | .ackTimerExpiry
  | .roundTimerExpiry | .gateClose _ | .spanTimeout _ | .byteReceived _ | .resetHeldLow => 0

/-- No edge reaches a job later than the longest gate or timeout after the edge before it: 65535 ticks at prescale
code 8 (R2, R21, R29, R32). -/
def Instr.WellFormed (i : Instr) : Bool := decide (i.elapsed ≤ Config.longestSpan)

end Sys2Proof
end

