-- ==== Sys2Proof/Laws/PerInstr.lean ====
section
/-! SUPPORT. One lemma for each command: it is well formed exactly when the time it carries is at most the longest gate
or timeout, 65535 ticks of 256 REFCLK periods of 62500 ps; a command that is no edge carries none. -/

namespace Sys2Proof.Laws.TimeBounded

/-- The time of a well-formed command is at most the longest span (R2, R21). -/
def Statement (i : Instr) : Prop := i.WellFormed = true ↔ i.elapsed ≤ 1048560000000

/-- The bound for any command: the statement by its definition. -/
theorem bounded (i : Instr) : Statement i := decide_eq_true_iff

theorem powerReset (speed : LineSpeed) : Statement (.powerReset speed) := bounded _
theorem pinReset (speed : LineSpeed) : Statement (.pinReset speed) := bounded _
theorem softReset (speed : LineSpeed) : Statement (.softReset speed) := bounded _
theorem ping : Statement .ping := bounded _
theorem getStatus : Statement .getStatus := bounded _
theorem setLink : Statement .setLink := bounded _
theorem setChannel : Statement .setChannel := bounded _
theorem getChannel : Statement .getChannel := bounded _
theorem setScan : Statement .setScan := bounded _
theorem getScan : Statement .getScan := bounded _
theorem scanStart : Statement .scanStart := bounded _
theorem scanStop : Statement .scanStop := bounded _
theorem calibrate : Statement .calibrate := bounded _
theorem measure : Statement .measure := bounded _
theorem abortOp : Statement .abortOp := bounded _
theorem flushNotices : Statement .flushNotices := bounded _
theorem resetPart : Statement .resetPart := bounded _
theorem undefinedRequestKind : Statement .undefinedRequestKind := bounded _
theorem ack (b : Byte) : Statement (.ack b) := bounded _
theorem requestFrameArrival (b : Byte) : Statement (.requestFrameArrival b) := bounded _
theorem foreignFrame (b : Byte) : Statement (.foreignFrame b) := bounded _
theorem lengthDiscard (b : Byte) : Statement (.lengthDiscard b) := bounded _
theorem crcMismatch (b : Byte) : Statement (.crcMismatch b) := bounded _
theorem gapTimeout : Statement .gapTimeout := bounded _
theorem replyTransmission : Statement .replyTransmission := bounded _
theorem firstTransmission : Statement .firstTransmission := bounded _
theorem noticeResend : Statement .noticeResend := bounded _
theorem frameEnd : Statement .frameEnd := bounded _
theorem ackTimerExpiry : Statement .ackTimerExpiry := bounded _
theorem roundTimerExpiry : Statement .roundTimerExpiry := bounded _
theorem settleEdge (u : UnitId) (dt : Nat) : Statement (.settleEdge u dt) := bounded _
theorem gateEdge (u : UnitId) (dt : Nat) : Statement (.gateEdge u dt) := bounded _
theorem gateClose (u : UnitId) : Statement (.gateClose u) := bounded _
theorem armingEdge (u : UnitId) (dt : Nat) : Statement (.armingEdge u dt) := bounded _
theorem periodEdge (u : UnitId) (dt : Nat) : Statement (.periodEdge u dt) := bounded _
theorem intervalArmingEdge (u : UnitId) (e : Edge) (dt : Nat) : Statement (.intervalArmingEdge u e dt) := bounded _
theorem intervalFinalEdge (u : UnitId) (e : Edge) (dt : Nat) : Statement (.intervalFinalEdge u e dt) := bounded _
theorem spanTimeout (u : UnitId) : Statement (.spanTimeout u) := bounded _
theorem byteReceived (b : Byte) : Statement (.byteReceived b) := bounded _
theorem resetHeldLow : Statement .resetHeldLow := bounded _

end Sys2Proof.Laws.TimeBounded
end

