-- ==== Sys2Proof/Tests/Slice0.lean ====
section
/-! SUPPORT. The model's own tests: well-formedness, worked examples of the spec, and, for each statement with hypotheses,
a state and operands that meet them. -/

namespace Sys2Proof.Tests

set_option Elab.async false

open Sys2Proof Sys2Proof.Machine

/-! ## Helpers -/

/-- A state is sound when its parts are: each part is decided by evaluation. -/
theorem sound_of {s : State}
    (a : s.notices.Fits ∧ s.notices.Stretched ∧ s.notices.tally.Fits ∧ s.JobsFit ∧ s.PassCountsFit ∧ s.res.Agree :=
      by decide +kernel)
    (b : s.ConfigsValid ∧ s.SnapshotsValid ∧ s.LivesInRange := by decide +kernel)
    (c : (∀ c : ChanId, s.channels[c].Sound) ∧ (∀ c : ChanId, s.channels[c].SuppressedSound) := by decide +kernel)
    (l : s.LocksSound := by decide +kernel)
    (q : s.seq.Sound ∧ s.ops.Fits ∧ s.ops.CurrentPending ∧ s.ops.TalliesFit := by decide +kernel)
    (o : s.CalibrationsSound ∧ s.OpJobsSound := by decide +kernel)
    (j : s.ScanJobsSound ∧ s.WatchSound := by decide +kernel)
    (d : s.delivery.Sound ∧ s.handler.Sound := by decide +kernel)
    (f : s.FramesLegal ∧ s.line.Sound ∧ s.ClocksSound ∧ s.ProducersRest ∧ s.GrantsRest := by decide +kernel) : s.Sound :=
  ⟨a.1, a.2.1, a.2.2.1, a.2.2.2.1, a.2.2.2.2.1, a.2.2.2.2.2, b.1, b.2.1, b.2.2, c.1, c.2, l, q.1, q.2.1, q.2.2.1,
    q.2.2.2, o.1, o.2, j.1, j.2, d.1, d.2, f.1, f.2.1, f.2.2.1, f.2.2.2.1,
    f.2.2.2.2⟩

/-- A request frame with tag 5. -/
def ask (k : RequestKind) (p : List Byte) : Frame := { kind := k.code, tag := 5#8, payload := p }

/-- A state in which one request waits. -/
def asked (f : Frame) (s : State) : State := { s with handler := { s.handler with requests := [f] } }

/-- After reset, with one request waiting. -/
def fresh (k : RequestKind) (p : List Byte) : State := asked (ask k p) State.reset

/-- A grouped key on channel 0, an oscillator channel. -/
def key : ChannelConfig :=
  { ChannelConfig.default 0 with
    enable := true, detector := .delta, delta := { DeltaFields.default with group := some 0 } }

/-- The part with the key configured on channel 0. -/
def keyed : State := State.reset.writeConfig 0 key

/-- The part with a CALIBRATE of two samples of the key in progress. -/
def calibrating : State := keyed.startOperation .calibrate [2#8, 1#8, 0#8]

/-- The part with a MEASURE of one sample of the key in progress. -/
def measuring : State := keyed.startOperation .measure [1#8, 1#8, 0#8]

/-- The part with a scan list of the key. -/
def listed : State := { keyed with seq := { keyed.seq with list := [{ channel := 0, divider := 1, watch := true }] } }

/-- The fields that a step's outcome gives, for a next state. -/
def after {α : Type} (read : State → α) : Host.Outcome State Fault Refusal → Option α
  | .next t => some (read t)
  | .fault _ => none
  | .refused _ => none

/-- After reset, with the receiver before the last byte of a frame. -/
def ending (f : Frame) : State :=
  { State.reset with
    line :=
      { State.reset.line with
        receiver := .crc f.body.length f.body (some ((crcOf f.covered).setWidth 8)) } }

/-- The last byte of a frame. -/
def lastByte (f : Frame) : Byte := (crcOf f.covered >>> 8).setWidth 8

theorem ends (f : Frame) : (ending f).EndsFrame f.body.length f.body (lastByte f) := ⟨rfl, _, rfl, rfl⟩

/-- After reset, with notices in flight, in a delivery state. -/
def flying (st : DeliveryState) (ns : List Notice) : State :=
  { State.reset with
    delivery :=
      { State.reset.delivery with
        state := st, inFlight := ns, passSet := if st = .resend then ns else []
        ackTimer := if st = .opened then some (Timer.start 100) else none, nextSeq := 3 } }

/-- A notice with number 1. -/
def one : Notice := { seq := 1, body := .record (.hello .power .slow) }

/-- A notice with number 2. -/
def next : Notice := { seq := 2, body := .overflow Tally.zero }

/-- After reset, with a job on CU0. -/
def running (phase : Phase) (m : Measuring) (edges : Nat) : State :=
  State.setUnit 0
    { phase := phase, job := { origin := .scan 0 0, channel := 0, snapshot := m, passCount := 0 }, cell := none
      edges := edges, tickTime := 0, spanTime := 0 }
    State.reset

/-- Measuring fields of an EXT channel in a mode. -/
def ext (mode : Mode) : Measuring := { Measuring.default 0 with source := .ext, mode := mode }

/-- The job of `running`. -/
def onUnit (phase : Phase) (m : Measuring) (edges : Nat) : Running :=
  { phase := phase, job := { origin := .scan 0 0, channel := 0, snapshot := m, passCount := 0 }, cell := none
    edges := edges, tickTime := 0, spanTime := 0 }

/-! ## Well-formedness -/

theorem test_edges_past_the_longest_span_are_ill_formed :
    [Instr.settleEdge 0 1048560000001, .gateEdge 0 1048560000001, .armingEdge 0 1048560000001,
      .periodEdge 0 1048560000001, .intervalArmingEdge 0 .rising 1048560000001,
      .intervalFinalEdge 0 .rising 1048560000001].all
      (fun c => !c.WellFormed) = true := by decide

theorem test_edge_within_the_longest_span_is_well_formed : (Instr.periodEdge 3 1048560000000).WellFormed = true :=
  by decide

/-! ## Worked examples of the spec -/

/-- Source: R158, the note on the CRC: the bytes 31h to 39h give 29B1h. -/
theorem test_crc_of_the_nine_digits :
    crcOf [0x31#8, 0x32#8, 0x33#8, 0x34#8, 0x35#8, 0x36#8, 0x37#8, 0x38#8, 0x39#8] = 0x29B1#16 := by decide +kernel

/-- What a series of readings makes of a channel, result by result, its lock being open. -/
def series (k : ChannelConfig) : LiveState → List Reading → List LiveState
  | _, [] => []
  | l, r :: rs =>
    let next := ((detect k true r l).live.withLast k r)
    next :: series k next rs

/-- Source: 05, worked example "a touch on one key": states, baselines, drift counts. -/
theorem test_touch_on_one_key :
    (series
        { ChannelConfig.default 3 with
          enable := true, detector := .delta
          delta := { DeltaFields.default with settleCount := 4, driftInterval := 4 } }
        { state := .settling }
        [.value 1203, .value 1205, .value 1201, .value 1204, .value 1206, .value 1207, .value 1206, .value 1208,
          .value 1150, .value 1090, .value 1084, .value 1083, .value 1085, .value 1150, .value 1180, .value 1203,
          .noSignal, .value 1204]).map (fun l => (l.state, l.baseline, l.driftCount)) =
      [(.settling, none, 0), (.settling, none, 0), (.settling, none, 0), (.idle, some 1203, 0),
        (.idle, some 1203, 1), (.idle, some 1203, 2), (.idle, some 1203, 3), (.idle, some 1204, 0),
        (.idle, some 1204, 1), (.arming, some 1204, 1), (.active, some 1204, 1), (.active, some 1204, 1),
        (.active, some 1204, 1), (.releasing, some 1204, 1), (.idle, some 1204, 0), (.idle, some 1204, 1),
        (.idle, some 1204, 1), (.idle, some 1204, 2)] := by decide +kernel

/-- Source: 06, worked example "a thermistor window in CHANGE mode": states and debounce counts. -/
theorem test_thermistor_window :
    (series
        { ChannelConfig.default 14 with
          enable := true, detector := .window, debounceOn := 3
          window := { lowLimit := 5000, highLimit := 7000, hysteresis := 200 } }
        { state := .unknown }
        [.value 6100, .value 6150, .value 6180, .value 6900, .value 7050, .value 7020, .value 6990, .value 7100,
          .noSignal, .value 7120, .value 7150, .value 6950, .value 6790, .value 6700]).map
      (fun l => (l.state, l.debounce, l.faultCount)) =
      [(.unknown, 1, 0), (.unknown, 2, 0), (.inside, 0, 0), (.inside, 0, 0), (.inside, 1, 0), (.inside, 2, 0),
        (.inside, 0, 0), (.inside, 1, 0), (.inside, 1, 1), (.inside, 2, 0), (.above, 0, 0), (.above, 0, 0),
        (.above, 1, 0), (.inside, 0, 0)] := by decide +kernel

/-- Source: R156: E7h on the line, start bit, data bits least significant first, stop bit; a low stop bit loses nothing,
and a line held low is 00h. -/
theorem test_characters_of_the_line :
    characterLevels 0xE7#8 = [false, true, true, true, false, false, true, true, true, true] ∧
      characterByte [false, true, true, true, false, false, true, true, true, false] = 0xE7#8 ∧
      characterByte (List.replicate 10 false) = 0#8 := by decide

/-- Source: R156: the first character of the PING reply is E7h, and TXD is high when idle. -/
theorem test_txd_levels :
    ((State.transmit .reply (replyFrame { kind := 1#8, tag := 0#8, payload := [] } Reply.ok) State.reset).txdLevels.take
        10 = characterLevels 0xE7#8) ∧ State.reset.txdLevel 0 = true := by decide +kernel

/-- Source: R181, R187: the reply to a PING with one echo byte. -/
theorem test_ping_reply :
    after (fun t => t.handler.replies) (exec .ping (fresh .ping [0xAB#8])) =
      some [{ kind := 0x81#8, tag := 5#8, payload := [0#8, 0x71#8, 1#8, 24#8, 4#8, 2#8, 0xAB#8] }] := by
  decide +kernel

/-- Source: 08, R147: the OVERFLOW notice goes ahead of the queue, with number 1 after reset. -/
theorem test_overflow_goes_first :
    after (fun t => (t.delivery.inFlight, t.notices.records.length))
      (exec .firstTransmission
        { State.reset with notices := { State.reset.notices with tally := { results := 3, states := 0, others := 1 } } }) =
      some ([{ seq := 1, body := .overflow { results := 3, states := 0, others := 1 } }], 1) := by decide +kernel

/-- Source: R29: the edge counter of 16,777,216 is OVERRANGE, one less is a raw value, 0 is NO_SIGNAL. -/
theorem test_gate_readings :
    [gateReading 0, gateReading 16777215, gateReading 16777216] = [.noSignal, .value 16777215, .overrange] := by
  decide

/-- Source: 02, worked example (channel 12, PERIOD, untouched): periods of 830.909 ns; the arming edge comes 830.909 ns
after entry to ARM at span 13, the 64th edge after it at tick 850 and span 864. -/
theorem test_worked_example_period :
    let armed := ((onUnit .arm (ext .period) 0).pass 830909).armed
    armed.spanTicks = 13 ∧ armed.ticks = 0 ∧
      ((armed.pass (64 * 830909)).ticks, (armed.pass (64 * 830909)).spanTicks) = (850, 864) := by decide

/-- Source: R32: a final edge that falls together with the expiry may be taken first; one later is not taken. -/
theorem test_edge_at_the_timeout :
    [500000000, 500000001].map
      (fun dt => after (fun t => t.res.units[(0 : UnitId)].isNone)
        (exec (.periodEdge 0 dt) (running .count (ext .period) 63))) = [some true, some false] := by decide +kernel

/-- Source: R31: with RISE-RISE the arming edge is not the final edge, so the two rows take it in turn. -/
theorem test_interval_arming_is_not_final :
    after (fun t => t.res.units[0].map (fun r => r.phase))
      (exec (.intervalArmingEdge 0 .rising 5) (running .arm (ext .interval) 0)) = some (some .count) := by
  decide +kernel

/-- Source: R153, R154: HELLO of the reset asserts ATTN, driven low; while RESET is held it is released. -/
theorem test_attn_pin :
    State.reset.attnDrive = .low ∧ State.reset.attnLine [.highImpedance] = false ∧
    (State.attnLine [.highImpedance] { State.reset with resetHeld := true }) = true ∧
    (State.attnLine [.low] { State.reset with resetHeld := true }) = false := by decide +kernel

/-! ## Witnesses: a state and operands that meet the hypotheses of each statement, clause by clause -/

theorem test_EmptyQueueLetsTimePass_witness :
    State.reset.pending = [] ∧ State.reset.timeDue = false ∧
      State.timeDue { State.reset with seq := { Sequencer.reset with timer := some { period := 1, elapsed := 16000 } } } =
        true := by decide +kernel

/-- The end of the RESET_PART reply, notices disabled, in a state that a host has set up so. -/
def softDue : State :=
  { State.reset with
    handler := { State.reset.handler with resetting := true }
    line := { State.reset.line with tx := some { source := .reply, frame := replyFrame (ask .resetPart []) Reply.ok } }
    delivery := Delivery.reset { LinkParams.default with notices := false } }

theorem test_ResetsPlaceHelloAlone_witness :
    State.reset.ResetBy .power .slow (.powerReset .slow) ∧ State.reset.ResetBy .pin .fast (.pinReset .fast) ∧
      softDue.ResetBy .soft .fast (.softReset .fast) ∧ 1 ≤ State.reset.delivery.params.window ∧
      1 ≤ softDue.delivery.params.window ∧ State.reset.resetHeld = false ∧ softDue.delivery.params.notices = false :=
  ⟨rfl, rfl, ⟨rfl, by decide +kernel⟩, by decide, by decide, rfl, rfl⟩

theorem test_ResetReadiesHandler_witness : softDue.ResetBy .soft .slow (.softReset .slow) :=
  ⟨rfl, by decide +kernel⟩

theorem test_ResetsRestoreEveryBlock_witness :
    State.reset.ResetBy .power .fast (.powerReset .fast) ∧ softDue.ResetBy .soft .slow (.softReset .slow) :=
  ⟨rfl, rfl, by decide +kernel⟩

theorem test_ReceiverTakesBytes_witness :
    State.reset.resetHeld = false ∧ State.reset.line.receiver = .hunt ∧
      (after (fun t => t.line.receiver) (exec (.byteReceived 0xE7#8) State.reset) = some .length) ∧
      (after (fun t => t.line.receiver) (exec (.byteReceived 130#8) (State.reset.setReceiver .length)) =
        some (.body 130 [])) ∧
      (after (fun t => t.line.receiver) (exec (.byteReceived 9#8) (State.reset.setReceiver (.body 3 [1#8]))) =
        some (.body 3 [1#8, 9#8])) ∧
      (after (fun t => t.line.receiver) (exec (.byteReceived 9#8) (State.reset.setReceiver (.body 2 [1#8]))) =
        some (.crc 2 [1#8, 9#8] none)) ∧
      (after (fun t => t.line.lastDiscard) (exec (.lengthDiscard 131#8) (State.reset.setReceiver .length)) =
        some (some .length)) ∧
      (after (fun t => t.line.lastDiscard) (exec .gapTimeout (State.reset.setReceiver .length)) = some (some .gap)) := by
  decide +kernel

theorem test_ReceiverTakesBytes_frame_witness :
    (ending { kind := 0x40#8, tag := 1#8, payload := [0#8] }).EndsFrame 3 [0x40#8, 1#8, 0#8]
        (lastByte { kind := 0x40#8, tag := 1#8, payload := [0#8] }) ∧
      (ending { kind := 0x80#8, tag := 1#8, payload := [] }).EndsFrame 2 [0x80#8, 1#8]
        (lastByte { kind := 0x80#8, tag := 1#8, payload := [] }) ∧
      [0#8, 0#8] ≠ crcBytes (crcOf (codeByte 2 :: [1#8, 0#8])) :=
  ⟨ends _, ends _, by decide +kernel⟩

theorem test_FrameBytesAreReceived_witness :
    Receiver.after (ask .ping [1#8]).bytes.dropLast .hunt =
        some (.crc 3 [1#8, 5#8, 1#8] (some ((crcOf (ask .ping [1#8]).covered).setWidth 8))) ∧
      (ask .ping [1#8]).payload.length ≤ 128 := by decide +kernel

theorem test_RequestFrameArrival_witness :
    (ending (ask .ping [])).EndsFrame 2 [1#8, 5#8] (lastByte (ask .ping [])) ∧ (1#8 : Byte) ≠ 0x40#8 ∧
      (1#8 : Byte).toNat < 128 := ⟨ends _, by decide, by decide⟩

/-- The frame that acknowledges a number. -/
def ackOf (n : Byte) : Frame := { kind := 0x40#8, tag := n, payload := [] }

/-- The receiver before the last byte of an ACK, with two notices in flight. -/
def acking (st : DeliveryState) (n : Byte) : State :=
  { ending (ackOf n) with delivery := (flying st [one, next]).delivery }

theorem test_AckIsCumulative_witness :
    ((acking .resend 2#8).EndsFrame 2 [0x40#8, 2#8] (lastByte (ackOf 2#8)) ∧
      (acking .resend 2#8).delivery.inFlight = [one] ++ next :: [] ∧ next.seq = (2#8 : Byte).toNat ∧
      ∀ y ∈ [one], y.seq ≠ (2#8 : Byte).toNat) ∧
    ((acking .opened 0#8).EndsFrame 2 [0x40#8, 0#8] (lastByte (ackOf 0#8)) ∧
      ∀ y ∈ (acking .opened 0#8).delivery.inFlight, y.seq ≠ (0#8 : Byte).toNat) :=
  ⟨⟨⟨rfl, _, rfl, rfl⟩, by decide +kernel, by decide, by decide +kernel⟩, ⟨rfl, _, rfl, rfl⟩, by decide +kernel⟩

/-- After reset, with a reply waiting. -/
def replying : State :=
  { State.reset with handler := { State.reset.handler with replies := [replyFrame (ask .ping []) Reply.ok] } }

theorem test_TransmitterChooses_witness :
    (replying.handler.replies = replyFrame (ask .ping []) Reply.ok :: [] ∧ replying.line.tx = none ∧
      replying.resetHeld = false) ∧
    ((flying .resend [one, next]).delivery.passSet = one :: [next] ∧
      (flying .resend [one, next]).delivery.state = .resend ∧ (flying .resend [one, next]).line.tx = none ∧
      (flying .resend [one, next]).handler.replies = []) ∧
    (flying .stalled [one]).delivery.state ≠ .opened ∧
    (flying .opened [one, next]).delivery.params.window ≤ (flying .opened [one, next]).delivery.inFlight.length ∧
    softDue.line.tx ≠ none := by decide +kernel

theorem test_FirstTransmission_witness :
    (State.reset.line.tx = none ∧ State.reset.resetHeld = false ∧ State.reset.handler.replies = [] ∧
      State.reset.delivery.state = .opened ∧
      State.reset.delivery.inFlight.length < State.reset.delivery.params.window) ∧
    State.reset.notices.tally = { results := 0, states := 0, others := 0 } ∧
    State.reset.notices.records = .hello .power .slow :: [] ∧
    (State.reset.notices.tally.countResult ≠ { results := 0, states := 0, others := 0 }) := by decide +kernel

theorem test_FrameEndActsOnDelivery_witness :
    (State.transmit .first one.frame (flying .opened [one])).line.tx = some { source := .first, frame := one.frame } ∧
      (State.transmit .first one.frame (flying .opened [one])).softResetDue = false := by decide +kernel

theorem test_AckTimerExpiry_witness :
    ((flying .opened [one]).delivery.state = .opened ∧ (flying .opened [one]).delivery.ackTimer ≠ none ∧
      (flying .opened [one]).delivery.inFlight ≠ []) ∧ (flying .stalled [one]).delivery.state ≠ .opened := by
  decide +kernel

/-- The part in WATCH with a round of the key in progress. -/
def watching : State := listed.startScan .watch 10

theorem test_TakingWakesAndEndsStall_witness : watching.seq.mode = .watch ∧ keyed.seq.mode ≠ .watch := by
  decide +kernel

/-- A PING waits whose tag and kind the cache holds. -/
def repeated : State :=
  { fresh .ping [] with
    handler :=
      { (fresh .ping []).handler with
        cache := some { tag := 5#8, kind := 1#8, reply := replyFrame (ask .ping []) Reply.ok } } }

theorem test_CachedReplyRepeated_witness :
    (repeated.CanTake (ask .ping []) [] ∧ requestKindOf .ping = some .ping ∧ (ask .ping []).tag ≠ 0#8 ∧
      repeated.handler.cache =
        some { tag := 5#8, kind := 1#8, reply := replyFrame (ask .ping []) Reply.ok }) ∧
    (asked { kind := 15#8, tag := 5#8, payload := [] } State.reset).CanTake
      { kind := 15#8, tag := 5#8, payload := [] } [] ∧ 14 < (15#8 : Byte).toNat := by decide +kernel

theorem test_EveryRequestGetsOneReply_witness :
    (fresh .resetPart []).TakesNew .resetPart (ask .resetPart []) [] ∧ requestKindOf .resetPart = some .resetPart := by
  decide +kernel

theorem test_GenericChecksRefuse_witness :
    ((fresh .getStatus [0#8]).TakesNew .getStatus (ask .getStatus [0#8]) [] ∧ [0#8].length ≠ 0) ∧
    ((fresh .setScan [1#8, 0#8, 1#8, 2#8]).TakesNew .setScan (ask .setScan [1#8, 0#8, 1#8, 2#8]) [] ∧
      [1#8, 0#8, 1#8, 2#8].length = 1 + 3 * (1#8 : Byte).toNat ∧ 2 ≤ (2#8 : Byte).toNat) := by decide +kernel

theorem test_ReadRequestsOnlyReply_witness :
    (fresh .ping []).TakesNew .ping (ask .ping []) [] ∧ (fresh .getStatus []).TakesNew .getStatus (ask .getStatus []) [] ∧
    (fresh .getChannel [23#8]).TakesNew .getChannel (ask .getChannel [23#8]) [] ∧
    (fresh .getChannel [24#8]).TakesNew .getChannel (ask .getChannel [24#8]) [] ∧
    (fresh .getScan []).TakesNew .getScan (ask .getScan []) [] := by decide +kernel

theorem test_ReadRequestsOnlyReply_layout_witness :
    calibrating.Sound ∧ listed.seq.list[0]? = some { channel := 0, divider := 1, watch := true } := ⟨sound_of, rfl⟩

theorem test_UndefinedKindAndResetPart_witness :
    ((asked { kind := 15#8, tag := 0#8, payload := [] } State.reset).CanTake
        { kind := 15#8, tag := 0#8, payload := [] } [] ∧
      State.reset.handler.cached { kind := 15#8, tag := 0#8, payload := [] } = none) ∧
    (fresh .resetPart []).TakesNew .resetPart (ask .resetPart []) [] ∧ softDue.handler.resetting = true := by
  decide +kernel

theorem test_StatusPicture_witness : calibrating.Sound := sound_of

theorem test_SetLinkSetsParameters_witness :
    (fresh .setLink [4#8, 5#8, 0#8, 7#8, 0#8]).TakesNew .setLink (ask .setLink [4#8, 5#8, 0#8, 7#8, 0#8]) [] ∧
    (fresh .setLink [0#8, 5#8, 0#8, 7#8, 0#8]).TakesNew .setLink (ask .setLink [0#8, 5#8, 0#8, 7#8, 0#8]) [] ∧
    (fresh .setLink [1#8, 4#8, 0#8, 7#8, 0#8]).TakesNew .setLink (ask .setLink [1#8, 4#8, 0#8, 7#8, 0#8]) [] ∧
    (fresh .setLink [1#8, 0xD0#8, 7#8, 8#8, 0#8]).TakesNew .setLink (ask .setLink [1#8, 0xD0#8, 7#8, 8#8, 0#8]) [] ∧
    (fresh .setLink [1#8, 0xD0#8, 7#8, 0#8, 2#8]).TakesNew .setLink (ask .setLink [1#8, 0xD0#8, 7#8, 0#8, 2#8]) [] := by
  decide +kernel

theorem test_ConfigPayloadRoundTrip_witness :
    key.valid = true ∧ keyed.channels[(0 : ChanId)].live.state ≠ .calibrating ∧
      keyed.refuseSetChannel (configBytes 0 key) = none ∧ (configBytes 0 key).length = 44 := by decide +kernel

/-- A SET_CHANNEL payload for the key with one byte replaced. -/
def spoiled (offset : Nat) (b : Byte) : List Byte := (configBytes 0 key).set offset b

theorem test_SetChannelRefusals_witness :
    (fresh .setChannel (spoiled 0 24#8)).TakesNew .setChannel (ask .setChannel (spoiled 0 24#8)) [] ∧
    fieldAt (spoiled 0 24#8) 0 1 = 24 ∧
    calibrating.channels[(0 : ChanId)].live.state = .calibrating ∧
    (setChannelFields = setChannelFields.take 4 ++ ⟨5, 1, 0, 8⟩ :: setChannelFields.drop 5 ∧
      (∀ y ∈ setChannelFields.take 4, y.holds (spoiled 5 9#8) = true) ∧
      FieldRange.holds (spoiled 5 9#8) ⟨5, 1, 0, 8⟩ = false ∧ FieldRange.holds (spoiled 5 8#8) ⟨5, 1, 0, 8⟩ = true) ∧
    ((∀ x ∈ setChannelFields, x.holds (spoiled 4 2#8) = true) ∧ fieldAt (spoiled 4 2#8) 4 1 = 2 ∧
      fieldAt (spoiled 4 2#8) 3 1 ≠ 2) ∧
    ((∀ x ∈ setChannelFields, x.holds (spoiled 19 100#8) = true) ∧
      fieldAt (spoiled 19 100#8) 17 2 ≤ fieldAt (spoiled 19 100#8) 19 2) ∧
    ((∀ x ∈ setChannelFields, x.holds ((spoiled 24 0#8).set 21 1#8 |>.set 25 0#8 |>.set 26 0#8) = true) ∧
      fieldAt ((spoiled 24 0#8).set 21 1#8 |>.set 25 0#8 |>.set 26 0#8) 24 3 <
        fieldAt ((spoiled 24 0#8).set 21 1#8 |>.set 25 0#8 |>.set 26 0#8) 21 3) ∧
    (∀ x ∈ setChannelFields, x.holds ((spoiled 24 0#8).set 25 0#8 |>.set 26 0#8 |>.set 27 1#8) = true) ∧
    (fieldAt ((spoiled 24 0#8).set 25 0#8 |>.set 26 0#8 |>.set 27 1#8) 24 3 -
        fieldAt ((spoiled 24 0#8).set 25 0#8 |>.set 26 0#8 |>.set 27 1#8) 21 3 <
      fieldAt ((spoiled 24 0#8).set 25 0#8 |>.set 26 0#8 |>.set 27 1#8) 27 3) ∧
    ((∀ x ∈ setChannelFields, x.holds (spoiled 15 2#8) = true) ∧ fieldAt (spoiled 15 2#8) 39 1 ≠ 0 ∧
      fieldAt (spoiled 15 2#8) 15 1 ≠ 1) := by decide +kernel

/-- The key touched, holding its lock. -/
def touched : State :=
  { State.setLive 0 { state := .active, baseline := some 1000 } keyed with
    locks := keyed.locks.set 0 (some 0) }

theorem test_SetChannelReconfigures_witness :
    (asked (ask .setChannel (configBytes 0 key)) touched).Sound ∧
    ((asked (ask .setChannel (configBytes 0 key)) touched).TakesNew .setChannel (ask .setChannel (configBytes 0 key)) [] ∧
      key.valid = true ∧ touched.channels[(0 : ChanId)].live.state = .active ∧
      touched.channels[(0 : ChanId)].config.events = true ∧ touched.notices.records.length ≤ 16) :=
  ⟨sound_of, by decide +kernel⟩

/-- The part with a MEASURE of channels 0 and 1 and one of channels 1 and 0 in progress. -/
def meteringTwo : State :=
  ((keyed.writeConfig 1 { key with measuring := Measuring.default 1 }).startOperation .measure
    [1#8, 2#8, 0#8, 1#8]).startOperation .measure [1#8, 2#8, 1#8, 0#8]

/-- A SET_CHANNEL of channel 0 cancels the current entry of the first operation and a later entry of the second one; of an
operation of channel 0 alone nothing is left; a CALIBRATE of another channel stays. -/
theorem test_SetChannelReconfigures_cancel_witness :
    (asked (ask .setChannel (configBytes 0 key)) meteringTwo).Sound ∧
    (asked (ask .setChannel (configBytes 0 key)) measuring).Sound ∧
    (asked (ask .setChannel (configBytes 1 key)) calibrating).Sound ∧
    ((meteringTwo.ops.table.map fun o => (o.kind, o.current, o.entries)) =
        [(.measure, 0, [OpEntry.fresh 0, OpEntry.fresh 1]), (.measure, 0, [OpEntry.fresh 1, OpEntry.fresh 0])] ∧
      (measuring.ops.table.map fun o => (o.kind, o.current, o.entries)) = [(.measure, 0, [OpEntry.fresh 0])] ∧
      measuring.notices.records.length ≤ 16 ∧ calibrating.channels[(1 : ChanId)].live.state ≠ .calibrating) :=
  ⟨sound_of, sound_of, sound_of, by decide +kernel⟩

theorem test_SetScanReplacesList_witness :
    (fresh .setScan [2#8, 23#8, 16#8, 1#8, 24#8, 1#8, 0#8]).TakesNew .setScan
      (ask .setScan [2#8, 23#8, 16#8, 1#8, 24#8, 1#8, 0#8]) [] ∧
    [2#8, 23#8, 16#8, 1#8, 24#8, 1#8, 0#8] =
      BitVec.ofNat 8 2 :: ([(23#8, 16#8, true), (24#8, 1#8, false)].map
        fun e : Byte × Byte × Bool => [e.1, e.2.1, if e.2.2 then 1#8 else 0#8]).flatten ∧
    State.reset.seq.mode = .stopped ∧ watching.seq.mode ≠ .stopped ∧
    33 ≤ (List.replicate 33 (0#8, 1#8, false)).length ∧ (List.replicate 33 (0#8, 1#8, false)).length ≤ 42 := by
  decide +kernel

/-- A SCAN_START waits. -/
def starting (p : List Byte) : State := asked (ask .scanStart p) listed

theorem test_ScanStartRefusals_witness :
    (starting [4#8, 1#8, 0#8]).TakesNew .scanStart (ask .scanStart [4#8, 1#8, 0#8]) [] ∧
    (starting [1#8, 0#8, 0#8]).TakesNew .scanStart (ask .scanStart [1#8, 0#8, 0#8]) [] ∧
    (starting [3#8, 9#8, 0#8]).TakesNew .scanStart (ask .scanStart [3#8, 9#8, 0#8]) [] ∧
    ((fresh .scanStart [2#8, 0#8, 0#8]).TakesNew .scanStart (ask .scanStart [2#8, 0#8, 0#8]) [] ∧
      State.reset.seq.list = []) ∧
    (∀ e ∈ State.reset.seq.list, e.watch = false) ∧ calibrating.ops.table ≠ [] := by decide +kernel

theorem test_ScanStartBeginsRun_witness :
    ((starting [1#8, 1#8, 0#8]).TakesNew .scanStart (ask .scanStart [1#8, 1#8, 0#8]) [] ∧ listed.seq.list ≠ []) ∧
    ((starting [2#8, 0#8, 0#8]).TakesNew .scanStart (ask .scanStart [2#8, 0#8, 0#8]) [] ∧
      (starting [2#8, 0#8, 0#8]).eligibleFrom 1 0 (starting [2#8, 0#8, 0#8]).seq.list = [0]) ∧
    ((starting [3#8, 10#8, 0#8]).TakesNew .scanStart (ask .scanStart [3#8, 10#8, 0#8]) [] ∧ listed.ops.table = [] ∧
      ∃ e ∈ listed.seq.list, e.watch = true) := by decide +kernel

/-- In the first round of a SINGLE run the key is due and eligible; with the key OFF no entry is. -/
theorem test_ScanStartBeginsRun_single_witness :
    (starting [2#8, 0#8, 0#8]).DueAndEligible .single 1 0 ∧
      ¬ ∃ i, ((starting [2#8, 0#8, 0#8]).writeConfig 0 { key with enable := false }).DueAndEligible .single 1 i := by
  refine ⟨⟨_, rfl, by decide +kernel⟩, ?_⟩
  rintro ⟨_ | i, e, he, -, -, on, -⟩
  · cases he
    exact absurd on (by decide +kernel)
  · cases he

theorem test_ScanStopStops_witness :
    (asked (ask .scanStop []) watching).TakesNew .scanStop (ask .scanStop []) [] := by decide +kernel

theorem test_OperationRefusals_witness :
    (asked (ask .calibrate [0#8, 1#8, 0#8]) keyed).TakesNew .calibrate (ask .calibrate [0#8, 1#8, 0#8]) [] ∧
    (asked (ask .measure [16#8, 0#8]) keyed).TakesNew .measure (ask .measure [16#8, 0#8]) [] ∧
    (asked (ask .measure [16#8, 2#8, 3#8, 3#8]) keyed).TakesNew .measure (ask .measure [16#8, 2#8, 3#8, 3#8]) [] ∧
    keyed.channels[(1 : ChanId)].live.state = .off ∧
    (asked (ask .calibrate [64#8, 1#8, 1#8]) keyed).TakesNew .calibrate (ask .calibrate [64#8, 1#8, 1#8]) [] ∧
    4 ≤ (List.replicate 4 (newOperation 1 .measure [1#8, 1#8, 0#8])).length := by decide +kernel

theorem test_CalibrateStarts_witness :
    (asked (ask .calibrate [64#8, 1#8, 0#8]) touched).Sound ∧
    ((asked (ask .calibrate [64#8, 1#8, 0#8]) touched).TakesNew .calibrate (ask .calibrate [64#8, 1#8, 0#8]) [] ∧
      touched.channels[(0 : ChanId)].config.detector = .delta ∧ touched.channels[(0 : ChanId)].live.state = .active ∧
      touched.ops.table.length < 4 ∧ [(0 : ChanId)].Nodup ∧ touched.notices.records.length ≤ 16) :=
  ⟨sound_of, by decide +kernel⟩

theorem test_MeasureStarts_witness :
    (asked (ask .measure [16#8, 1#8, 0#8]) touched).Sound ∧
    ((asked (ask .measure [16#8, 1#8, 0#8]) touched).TakesNew .measure (ask .measure [16#8, 1#8, 0#8]) [] ∧
      touched.channels[(0 : ChanId)].live.state ≠ .off ∧ touched.ops.table.length < 4) :=
  ⟨sound_of, by decide +kernel⟩

/-- The operation of `calibrating`. -/
def calOp : Operation :=
  { opId := 1, kind := .calibrate, samples := 2, entries := [OpEntry.fresh 0], current := 0, started := true
    outstanding := true }

theorem test_AbortOpEnds_witness :
    (asked (ask .abortOp [1#8]) calibrating).Sound ∧ (asked (ask .abortOp [9#8]) calibrating).Sound ∧
    ((asked (ask .abortOp [1#8]) calibrating).TakesNew .abortOp (ask .abortOp [1#8]) [] ∧
      calibrating.ops.table = [calOp] ∧ calOp.opId = (1#8 : Byte).toNat ∧ calOp.opId ≠ (9#8 : Byte).toNat ∧
      calibrating.notices.records.length ≤ 16 ∧ (OpEntry.fresh 0).outcome = .pending ∧
      calibrating.channels[(0 : ChanId)].config.events = true) :=
  ⟨sound_of, sound_of, by decide +kernel⟩

theorem test_FlushDiscards_witness :
    [0#8, 1#8, 2#8, 3#8, 4#8].all (fun b => decide
      ((fresh .flushNotices [b]).TakesNew .flushNotices (ask .flushNotices [b]) [])) = true := by decide +kernel

theorem test_OpIdFirstFree_witness :
    calibrating.ops.Fits ∧ (asked (ask .measure [16#8, 1#8, 0#8]) keyed).TakesNew .measure
      (ask .measure [16#8, 1#8, 0#8]) [] ∧
    repeated.handler.cached (ask .ping []) = some (replyFrame (ask .ping []) Reply.ok) ∧
    repeated.CanTake (ask .ping []) [] := by decide +kernel

/-- A MEASURE operation of one channel or two, with its job outstanding. -/
def measOp (samples : Nat) (cs : List ChanId) : Operation :=
  { opId := 1, kind := .measure, samples := samples, entries := cs.map OpEntry.fresh, current := 0, started := true
    outstanding := true }

/-- The part with one such operation alone in its table. -/
def metering (o : Operation) : State := { State.reset with ops := { table := [o], nextId := 2 } }

theorem test_MeasureSampleCounted_witness :
    [measOp 2 [0], measOp 1 [0, 1], measOp 1 [0]].all (fun o => decide
      ((metering o).ops.Fits ∧ o ∈ (metering o).ops.table ∧ o.fits = true ∧ o.kind = .measure ∧ o.outstanding = true ∧
        o.entries[o.current]? = some (OpEntry.fresh 0) ∧ (OpEntry.fresh 0).outcome = .pending)) = true ∧
    0 + 1 ≠ (measOp 2 [0]).samples ∧
    firstPending 0 ((measOp 1 [0, 1]).entries.set 0 { OpEntry.fresh 0 with outcome := .complete }) = some 1 ∧
    firstPending 0 ((measOp 1 [0]).entries.set 0 { OpEntry.fresh 0 with outcome := .complete }) = none := by
  decide +kernel

theorem test_CalibrateSampleCounted_witness :
    calibrating.Sound ∧ (calibrating.ops.table = [calOp] ∧ calOp.outstanding = true ∧
      calOp.entries[calOp.current]? = some (OpEntry.fresh 0) ∧ (OpEntry.fresh 0).taken + 1 ≠ calOp.samples) :=
  ⟨sound_of, by decide +kernel⟩

/-- The part with a CALIBRATE of one sample of two keys in progress. -/
def calibratingTwo : State :=
  (keyed.writeConfig 1 { key with measuring := Measuring.default 1 }).startOperation .calibrate [1#8, 2#8, 0#8, 1#8]

/-- One sample ends the entry, which leaves the second one to move on to; of one entry alone nothing is left. -/
theorem test_CalibrateSampleCounted_end_witness :
    calibratingTwo.Sound ∧
    (∃ o ∈ calibratingTwo.ops.table, o.kind = .calibrate ∧ o.outstanding = true ∧
      o.entries[o.current]? = some (OpEntry.fresh 0) ∧ (OpEntry.fresh 0).taken + 1 = o.samples ∧
      firstPending 0 (o.entries.set o.current { OpEntry.fresh 0 with outcome := .failed }) = some 1) ∧
    firstPending 0 (calOp.entries.set calOp.current { OpEntry.fresh 0 with outcome := .failed }) = none :=
  ⟨sound_of, by decide +kernel, by decide +kernel⟩

/-- The part in RUNNING between rounds, its list of one dropped entry. -/
def between : State :=
  State.startScan .running 1
    { State.reset with seq := { Sequencer.reset with list := [{ channel := 0, divider := 1, watch := false }] } }

theorem test_RoundTimerExpiry_witness :
    State.reset.seq.timer = none ∧ (watching.seq.timer = some { period := 10, elapsed := 0 } ∧ watching.seq.inRound = true) ∧
    (between.seq.timer = some { period := 1, elapsed := 0 } ∧ between.seq.inRound = false ∧
      between.seq.heldStart = false ∧ between.seq.mode = .running) := by decide +kernel

/-- The part in WATCH, its key about to reach FAULT. -/
def failing : State := State.setLive 0 { state := .settling, faultCount := 2 } watching

theorem test_DetectionWakes_witness :
    (failing.seq.mode = .watch ∧ failing.seq.round ≤ 65535) ∧
    (failing.verdict 0 .noSignal).transition = some { reason := .fault, value := none } ∧
    (failing.verdict 0 (.value 1000)).transition = none := by decide +kernel

theorem test_DetectionWakes_completion_witness :
    (failing.res.units[(0 : UnitId)].map fun r => (r.job.origin, r.job.channel)) =
      some (.scan 0 failing.seq.round, 0) := by decide +kernel

/-- The part in RUNNING with the last two jobs of its round on CU0 and CU1. -/
def lastTwo : State :=
  State.startScan .running 1
    (({ State.reset with
        seq :=
          { Sequencer.reset with
            list :=
              [{ channel := 0, divider := 1, watch := false }, { channel := 1, divider := 1, watch := false }] } } :
      State).writeConfig 0 key |>.writeConfig 1 { key with measuring := Measuring.default 1 })

theorem test_ScanResultIsTaken_witness :
    lastTwo.seq.mode ≠ .watch ∧ lastTwo.queue = [] ∧ lastTwo.ops.table = [] ∧
    (lastTwo.res.units[(0 : UnitId)].map fun r => r.job.origin) = some (.scan 0 lastTwo.seq.round) ∧
    lastTwo.seq.inRound = true ∧ lastTwo.seq.list.length ≤ lastTwo.seq.issuePos ∧ 0 ∈ lastTwo.seq.outstanding ∧
    lastTwo.seq.outstanding.erase 0 ≠ [] := by decide +kernel

/-- The last job of a round runs on CU0, in SINGLE, and in RUNNING without and with a held start; in WATCH a reading that
settles nothing is no detection; and an end report of another round is not of the round in progress. -/
theorem test_ScanResultIsTaken_last_witness :
    [listed.startScan .single 0, listed.startScan .running 20, (listed.startScan .running 20).overrun, watching].all
      (fun s => decide
        ((s.res.units[(0 : UnitId)].map fun r => r.job.origin) = some (.scan 0 s.seq.round) ∧ s.seq.inRound = true ∧
          0 ∈ s.seq.outstanding ∧ s.seq.list.length ≤ s.seq.issuePos ∧ s.seq.outstanding.erase 0 = [])) = true ∧
    (listed.startScan .single 0).seq.mode = .single ∧
    ((listed.startScan .running 20).seq.mode = .running ∧ (listed.startScan .running 20).seq.heldStart = false) ∧
    (listed.startScan .running 20).overrun.seq.heldStart = true ∧
    (watching.verdict 0 (.value 1000)).transition = none ∧ watching.seq.round ≠ 0 := by decide +kernel

theorem test_EdgesCount_witness :
    ((running .settle (Measuring.default 0) 0).res.units[(0 : UnitId)] = some (onUnit .settle (Measuring.default 0) 0) ∧
      ((onUnit .settle (Measuring.default 0) 0).pass 500000000).isPast = false ∧
      6 + 1 < (Measuring.default 0).settleCycles ∧ (Measuring.default 0).settleCycles ≤ 7 + 1) ∧
    ((onUnit .count (ext .gated) 0).pass 1000000000).isPast = false ∧
    ((onUnit .arm (ext .period) 0).pass 500000000).isPast = false ∧
    ((onUnit .count (ext .period) 62).pass 500000000).isPast = false ∧
    ((onUnit .arm (ext .interval) 0).pass 500000000).isPast = false ∧
    ((onUnit .count (ext .interval) 0).pass 500000000).isPast = false ∧
    ((onUnit .count (ext .gated) 0).pass 1000000001).isPast = true := by decide +kernel

theorem test_JobsComplete_witness :
    (running .count (ext .gated) 0).res.units[(0 : UnitId)] = some (onUnit .count (ext .gated) 0) ∧
    (((onUnit .count (ext .period) 63).pass 500000000).isPast = false ∧ (ext .period).cycleCount ≤ 63 + 1) ∧
    ((onUnit .count (ext .interval) 0).pass 0).isPast = false ∧
    (State.ClocksSound (running .count (ext .period) 63) ∧ State.SnapshotsValid (running .count (ext .period) 63)) ∧
    (ext .period).timeout * (2 ^ (ext .period).prescale * 62500) = 500000000 := by decide +kernel

/-- A CALIBRATE with a sample to go, and a MEASURE whose only sample ends it, with nothing waiting; no other operation has
the result. -/
theorem test_JobsComplete_operation_witness :
    [calibrating, measuring].all
      (fun s => decide
        ((s.res.units[(0 : UnitId)].map fun r => r.job.origin) = some (.op 1 0) ∧ s.queue = [] ∧
          s.seq.inRound = false ∧ (s.ops.table.map Operation.opId).Nodup ∧
          ∀ o ∈ s.ops.table, ¬ (o.opId = 2 ∧ o.outstanding = true ∧ o.current = 0))) = true ∧
    (measuring.takeSample 1 0 (.value 7)).ops.table = [] := by decide +kernel

/-- A waiting job on pin 0 with a pass count. -/
def waiting (src : Source) (pin : PinId) (passes : Nat) : Job :=
  { origin := .scan 0 1, channel := 0, passCount := passes
    snapshot := { Measuring.default pin with source := src } }

/-- Issue has paused at the last of seven entries, of a channel that a CALIBRATE is calibrating on CU0; six scan jobs
wait. -/
def pausedAtCalibrating : State :=
  { calibrating with
    queue := List.replicate 6 (waiting .ext 1 0)
    res :=
      { calibrating.res with
        units := calibrating.res.units.set 1 (some (onUnit .arm (ext .period) 0))
          |>.set 2 (some (onUnit .arm (ext .period) 0)) |>.set 3 (some (onUnit .arm (ext .period) 0)) }
    seq :=
      { listed.seq with
        mode := .running, inRound := true, issuePos := 6, outstanding := [0, 1, 2, 3, 4, 5]
        eligible := [0, 1, 2, 3, 4, 5, 6], list := List.replicate 7 { channel := 0, divider := 1, watch := false } } }

/-- Source: R135 step 6: the slot that an ABORT_OP frees is used when its channels have left CALIBRATING, so the entry is
issued and not skipped. -/
theorem test_abort_frees_slots_last :
    (pausedAtCalibrating.abortOperation calOp).seq.issuePos = 7 ∧
      (pausedAtCalibrating.abortOperation calOp).seq.outstanding = [0, 1, 2, 3, 4, 5, 6] := by decide +kernel

/-- A job with settle cycles, one on a pin that has readers, and one on a pin that an oscillator drives. -/
theorem test_GrantTakesLowest_witness :
    Resources.reset.offer false (waiting .oscRes 0 0) = some (0, some 0) ∧
    Resources.offer false (waiting .ext 0 0)
      (Resources.reset.grant (waiting .ext 0 0) 0 none) = some (1, none) ∧
    Resources.offer false (waiting .ext 0 0)
      (Resources.reset.grant (waiting .oscCap 0 0) 0 (some 0)) = none ∧
    Resources.offer true (waiting .ext 1 0)
      (Resources.reset.grant (waiting .ext 0 0) 0 none) = none := by decide +kernel

/-- Source: R47, R45: an oscillator job on a pin with a reader is passed over below pass count 4, and the walk goes on. -/
theorem test_walk_goes_on :
    ((grantWalk false [waiting .ext 0 0, waiting .oscCap 0 3, waiting .ext 1 0] Resources.reset).1.map fun x => x.2) =
      [true, false, true] := by decide +kernel

theorem test_BlockedJobStopsYounger_witness :
    ((grantWalk false [waiting .ext 0 0, waiting .oscCap 0 4, waiting .ext 1 0] Resources.reset).1.map fun x => x.2) =
      [true, false, false] := by decide +kernel

/-- The signal of the key at baseline 1000. -/
def signalAt (raw : Nat) : Int := signalOf .falling 1000 raw

theorem test_DeltaResults_witness :
    (key.detector = .delta ∧ 6 + 1 < key.delta.settleCount ∧ key.delta.settleCount ≤ 7 + 1) ∧
    ((key.delta.onThreshold : Int) ≤ signalAt 900 ∧ 1 < key.debounceOn ∧ ({ key with debounceOn := 1 }).debounceOn = 1) ∧
    (signalAt 1060 < key.delta.onThreshold ∧ signalAt 1060 ≤ -(key.delta.offThreshold : Int) ∧
      2 + 1 < key.delta.reverseLimit ∧ key.delta.reverseLimit ≤ 3 + 1) ∧
    (signalAt 1059 < key.delta.onThreshold ∧ -(key.delta.offThreshold : Int) < signalAt 1059 ∧
      14 + 1 < key.delta.driftInterval ∧ key.delta.driftInterval ≤ 15 + 1) ∧
    (signalAt 901 < key.delta.onThreshold ∧ key.debounceOn ≤ 1 + 1 ∧ 0 + 1 < key.debounceOn) ∧
    (signalAt 940 ≤ key.delta.offThreshold ∧ key.debounceOff ≤ 1 + 1 ∧ 1 < key.debounceOff) ∧
    (key.delta.offThreshold : Int) < signalAt 939 ∧
    (0 < ({ key.delta with holdLimit := 1 }).holdLimit ∧ ({ key.delta with holdLimit := 1 }).holdLimit ≤ min (0 + 1) 65535) ∧
    ¬ (0 < key.delta.holdLimit) := by decide +kernel

theorem test_InvalidResultsLeadToFault_witness :
    (1 + 1 < key.faultLimit ∧ key.faultLimit ≤ 2 + 1) ∧ ChanState.idle ∈ [ChanState.settling, .idle] ∧
    key.detector = .delta := by decide +kernel

/-- A thermistor window. -/
def window : ChannelConfig :=
  { ChannelConfig.default 14 with
    enable := true, detector := .window, debounceOn := 3
    window := { lowLimit := 5000, highLimit := 7000, hysteresis := 200 } }

theorem test_WindowZones_witness :
    window.detector = .window ∧
    [(ChanState.above, 6801, Zone.above), (.above, 6800, .inside), (.below, 5199, .below), (.below, 5200, .inside),
      (.inside, 4999, .below), (.inside, 5000, .inside), (.inside, 7000, .inside), (.unknown, 7001, .above)].all
      (fun x => decide
        (x.1 ∈ [ChanState.unknown, .inside, .above, .below] ∧
          effectiveLow window.window x.1 ≤ effectiveHigh window.window x.1 ∧
          zoneOf window.window x.1 x.2.1 = x.2.2)) = true ∧
    1 < window.debounceOn ∧ window.debounceOn ≤ 2 + 1 ∧ window.debounceOff ≤ 1 + 1 := by decide +kernel

/-- A reading of channel c. -/
def reading (c : ChanId) : ResultRecord :=
  { channel := c, round := 1, noSignal := false, overrange := false, suppressed := false, state := .live
    raw := some 1, baseline := none, signal := none }

/-- A full queue, with a reading of channel 0 as its oldest record or none. -/
def full (first : Record) : NoticeQueue :=
  { records := first :: List.replicate 31 (.scan .done 1), tally := Tally.zero }

theorem test_FullQueueArrival_witness :
    (full (.result (reading 0))).Fits ∧ (full (.result (reading 0))).records.length = 32 ∧
    coalesce (reading 1) (full (.result (reading 0))).records = none ∧
    (full (.result (reading 0))).records = [] ++ .result (reading 0) :: List.replicate 31 (.scan .done 1) ∧
    (∀ y ∈ (full (.scan .done 1)).records, y.isResult = false) := by decide +kernel

theorem test_ReadingsAloneGiveWay_witness :
    (full (.result (reading 0))).records = [] ++ .result (reading 0) :: List.replicate 31 (.scan .done 1) ∧
    (∀ z ∈ List.replicate 31 (Record.scan .done 1), z.isResultOf 0 = false ∧ z.isStateOf 0 = false) ∧
    State.reset.notices.records.length < 32 := by decide +kernel

/-! ### The premises of the invariants, in a state with a calibration in progress -/

theorem test_NoticeQueueSoundKept_witness :
    calibrating.notices.Fits ∧ calibrating.notices.Stretched ∧ calibrating.notices.tally.Fits := by decide +kernel

theorem test_ArbiterSoundKept_witness :
    calibrating.JobsFit ∧ calibrating.PassCountsFit ∧ calibrating.res.Agree := by decide +kernel

theorem test_DeliverySoundKept_witness : (flying .resend [one, next]).delivery.Sound := by decide +kernel

theorem test_RangesKept_witness :
    calibrating.ConfigsValid ∧ calibrating.SnapshotsValid ∧ calibrating.ClocksSound := by decide +kernel

theorem test_ChannelsAndLocksKept_witness : touched.Sound := sound_of

theorem test_OperationsSoundKept_witness : measuring.Sound := sound_of

/-- Two operations that need a job, in a part between rounds, in a round with an entry to issue, and without operations. -/
def idleOps : State := { listed with ops := { table := [idle 1, idle 2], nextId := 3 } }
where idle (id : Nat) : Operation :=
  { opId := id, kind := .measure, samples := 1, entries := [OpEntry.fresh 0], current := 0, started := false
    outstanding := false }

theorem test_OperationsSoundKept_issue_witness :
    idleOps.nextOperation = idleOps.ops.table.head? ∧
    idleOps.producerStep false = .op (idleOps.idle 1) ∧
    State.producerStep false { idleOps with seq := { idleOps.seq with inRound := true, eligible := [0] } } =
      .either { channel := 0, divider := 1, watch := true } (idleOps.idle 1) ∧
    State.producerStep false { listed with seq := { listed.seq with inRound := true, eligible := [0] } } =
      .scan { channel := 0, divider := 1, watch := true } := by decide +kernel

theorem test_ProducersSoundKept_witness : watching.Sound := sound_of

theorem test_SoundStatesStepSafely_witness : lastTwo.Sound := sound_of

theorem test_sound_states_step : ∃ t, step calibrating = .next t := ⟨_, rfl⟩

end Sys2Proof.Tests
end

section
/-! What every step keeps: a property that each single change of a block keeps is kept by every command and by every
step. The walk over the commands is made once, here. -/

namespace Sys2Proof.Machine

/-! ### Outcomes -/

/-- An outcome is a next state with a property. -/
def Yields (P : State → Prop) (o : Outcome) : Prop := ∃ t, o = .next t ∧ P t

theorem Yields.next {P : State → Prop} {t : State} (h : P t) : Yields P (.next t) := ⟨t, rfl, h⟩

theorem Yields.of_next {P : State → Prop} {t : State} (h : Yields P (.next t)) : P t := by
  obtain ⟨u, hu, hP⟩ := h
  cases hu
  exact hP

/-! ### The single changes of the blocks -/

/-- Whether the partition of a job's producer has a free slot (R42, R43). -/
def State.slotFree (s : State) : Origin → Prop
  | .scan _ _ => s.scanSlotFree = true
  | .op _ _ => s.opWaiting < Config.opSlots

/-- A property that is kept by each single change that the inner blocks make: all but the line, the delivery and the
request handler. -/
structure KeptInside (P : State → Prop) : Prop where
  seq : ∀ s q, P s → P { s with seq := q }
  ops : ∀ s e, P s → P { s with ops := e }
  choices : ∀ s n, P s → P { s with choices := n }
  locks : ∀ s ls, P s → P { s with locks := ls }
  live : ∀ s c l, P s → P (s.setLive c l)
  config : ∀ s c k, P s → k.valid = true → P (s.writeConfig c k)
  record : ∀ s r, P s → P (s.addRecord r)
  granted : ∀ s, P s → P s.grantPass
  entered : ∀ s o c, P s → s.slotFree o → P (s.enterJob o c)
  dropped : ∀ s named, P s → P { s with queue := s.queue.filter named }
  released : ∀ s u r, P s → s.res.units[u] = some r → P { s with res := s.res.release u r }
  unit : ∀ s u q r, P s → s.res.units[u] = some q → r.job = q.job → r.cell = q.cell →
    (q.inTime = true → r.inTime = true) → P (s.setUnit u r)

/-- A property that is kept by each single change that a command can make to a block. -/
structure KeptByChanges (P : State → Prop) : Prop extends KeptInside P where
  link : ∀ s l d h held is, P s →
    P { s with line := l, delivery := d, handler := h, resetHeld := held, pending := is }
  offered : ∀ s b q, P s → s.notices.offer = some (b, q) → P { s with notices := q }
  flushed : ∀ s scope, P s → P { s with notices := s.notices.flushed scope }
  reset : ∀ s k speed p held, P s → P (s.afterReset k speed p held)

namespace KeptInside

variable {P : State → Prop} {s : State}

/-! ### Rounds and producers -/

theorem completeRound (hP : KeptInside P) (h : P s) : P s.completeRound := by
  unfold State.completeRound
  split
  · exact hP.seq s _ h
  · split <;> exact hP.seq s _ h
  · split <;> exact hP.seq s _ h
  · exact hP.record _ _ (hP.seq s _ h)

theorem endReport (hP : KeptInside P) (entry round : Nat) (h : P s) : P (s.endReport entry round) := by
  unfold State.endReport State.completeIfOver
  split
  · split
    · exact hP.completeRound (hP.seq s _ h)
    · exact hP.seq s _ h
  · exact h

theorem issueEntry (hP : KeptInside P) (e : ScanEntry) (h : P s) (free : s.scanSlotFree = true) :
    P (s.issueEntry e) :=
  hP.entered _ _ _ (hP.seq s _ h) free

theorem issueSample (hP : KeptInside P) (o : Operation) (h : P s) (free : s.opWaiting < Config.opSlots) :
    P (s.issueSample o) := by
  unfold State.issueSample
  split
  · exact h
  · exact hP.entered _ _ _ (hP.ops s _ h) free

end KeptInside

/-- An entry that the sequencer can issue has a free slot (R69). -/
theorem State.nextScan_slot {s : State} {e : ScanEntry} (h : s.nextScan = some e) : s.scanSlotFree = true := by
  unfold State.nextScan at h
  split at h
  · cases h
  · split at h
    · next hc => simp only [Bool.and_eq_true] at hc; exact hc.2
    · cases h

/-- An operation that the engine serves has a free slot, stands in the table and needs a job (R128). -/
theorem State.nextOperation_some {s : State} {o : Operation} (h : s.nextOperation = some o) :
    s.opWaiting < Config.opSlots ∧ o ∈ s.ops.table ∧ o.needsJob = true := by
  unfold State.nextOperation at h
  split at h
  · next hw => exact ⟨hw, List.mem_of_find?_eq_some h, List.find?_some h⟩
  · cases h

namespace KeptInside

variable {P : State → Prop} {s : State}

theorem drive (hP : KeptInside P) (h : P s) : P s.drive :=
  State.driveFor_keeps P (fun _ ht _ => hP.completeRound ht) (fun t _ ht _ => hP.seq t _ ht)
    (fun _ e ht he => hP.issueEntry e ht (State.nextScan_slot he))
    (fun _ o ht ho => hP.issueSample o ht (State.nextOperation_some ho).1)
    (fun t ht => hP.choices t (t.choices + 1) ht) _ _ _ h

theorem fillFor (hP : KeptInside P) (fuel : Nat) (h : P s) : P (s.fillFor fuel) := by
  induction fuel generalizing s with
  | zero => exact h
  | succ n ih =>
    unfold State.fillFor
    split
    · next o ho => exact ih (hP.issueSample o h (State.nextOperation_some ho).1)
    · exact h

theorem endWithout (hP : KeptInside P) (j : Job) (h : P s) : P (s.endWithout j) := by
  unfold State.endWithout
  split
  · exact hP.endReport _ _ h
  · exact hP.ops s _ h

theorem abortUnit (hP : KeptInside P) (named : Job → Bool) (u : UnitId) (h : P s) :
    P (s.abortUnit named u) := by
  unfold State.abortUnit
  split
  · exact h
  · next r hr =>
    split
    · exact hP.endWithout _ (hP.released s u r h hr)
    · exact h

theorem withdraw (hP : KeptInside P) (named : Job → Bool) (h : P s) : P (s.withdraw named) :=
  State.withdraw_keeps P named (fun t ht => hP.dropped t _ ht) (fun _ j ht => hP.endWithout j ht)
    (fun _ u ht => hP.abortUnit named u ht) (fun t ht => hP.granted t ht) s h

theorem abandon (hP : KeptInside P) (h : P s) : P s.abandon := hP.drive (hP.withdraw _ (hP.seq s _ h))

theorem startPaced (hP : KeptInside P) (m : SeqMode) (period : Nat) (h : P s) : P (s.startPaced m period) :=
  hP.drive (hP.seq s _ h)

theorem wake (hP : KeptInside P) (r : WakeReason) (h : P s) : P (s.wake r) := by
  unfold State.wake
  split
  · exact hP.startPaced _ _ (hP.abandon (hP.record _ _ h))
  · exact h

/-! ### Results and operations -/

theorem addStateRecord (hP : KeptInside P) (c : ChanId) (round : Option Nat) (previous next : ChanState)
    (reason : Reason) (value : Option Int) (h : P s) : P (s.addStateRecord c round previous next reason value) := by
  unfold State.addStateRecord
  split
  · exact hP.record _ _ h
  · exact h

theorem trackResult (hP : KeptInside P) (c : ChanId) (round : Nat) (r : Reading) (h : P s) :
    P (s.trackResult c round r) := by
  have decided := hP.live _ c (s.verdict c r).live
    (hP.locks s ((s.verdict c r).lock.apply c s.channels[c].config.delta.group s.locks) h)
  have recorded : P (State.addTransition c round s.channels[c].live.state (s.verdict c r)
      (State.setLive c (s.verdict c r).live
        { s with locks := (s.verdict c r).lock.apply c s.channels[c].config.delta.group s.locks })) := by
    unfold State.addTransition
    split
    · exact decided
    · exact hP.addStateRecord _ _ _ _ _ _ decided
  unfold State.trackResult State.addResultRecord
  dsimp only
  split
  · exact hP.live _ _ _ (hP.record _ _ (hP.live _ _ _ recorded))
  · exact hP.live _ _ _ recorded

theorem moveOn (hP : KeptInside P) (o : Operation) (h : P s) : P (s.moveOn o) := by
  unfold State.moveOn
  split
  · exact hP.ops s _ h
  · exact hP.record _ _ (hP.ops s _ h)

theorem settleEntry (hP : KeptInside P) (k : OpKind) (n : Nat) (e : OpEntry) (h : P s) :
    P (s.settleEntry k n e) := by
  unfold State.settleEntry State.settleCalibration
  split
  · split
    · exact hP.addStateRecord _ _ _ _ _ _ (hP.live _ _ _ h)
    · exact hP.addStateRecord _ _ _ _ _ _ (hP.live _ _ _ (hP.locks s _ h))
    all_goals exact h
  · exact h

theorem takeSample (hP : KeptInside P) (id entry : Nat) (r : Reading) (h : P s) :
    P (s.takeSample id entry r) := by
  unfold State.takeSample
  split
  · exact h
  · split
    · exact h
    · split
      · unfold State.countSample
        dsimp only
        split
        · exact hP.ops s _ h
        · exact hP.moveOn _ (hP.settleEntry _ _ _ (hP.ops s _ h))
      · exact h

theorem deliver (hP : KeptInside P) (j : Job) (r : Reading) (h : P s) : P (s.deliver j r) := by
  unfold State.deliver
  split
  · unfold State.scanResult
    refine hP.drive (hP.endReport _ _ ?_)
    split
    · exact hP.wake _ (hP.trackResult _ _ _ h)
    · exact hP.trackResult _ _ _ h
  · exact hP.drive (hP.takeSample _ _ _ h)

/-- A job completes on the unit that runs it, whatever time has passed there (R35). -/
theorem completeJob (hP : KeptInside P) (u : UnitId) (q run : Running) (r : Reading) (h : P s)
    (hq : s.res.units[u] = some q) (job : run.job = q.job) (cell : run.cell = q.cell) : P (s.completeJob u run r) := by
  have same : s.res.release u run = s.res.release u q := by
    cases run
    cases q
    cases job
    cases cell
    rfl
  unfold State.completeJob
  rw [same]
  exact hP.drive (hP.granted _ (hP.deliver _ _ (hP.released s u q h hq)))

/-! ### The effects of requests -/

theorem cancelEntries (hP : KeptInside P) (c : ChanId) (h : P s) : P (s.cancelEntries c) := by
  have cancelIn (t : State) (o : Operation) (ht : P t) : P (t.cancelIn c o) := by
    unfold State.cancelIn
    dsimp only
    split
    · split
      · exact hP.moveOn _ (hP.ops t _ ht)
      · exact hP.ops t _ ht
    · exact hP.ops t _ ht
  have fold (xs : List Operation) (t : State) (ht : P t) : P (xs.foldl (fun t o => t.cancelIn c o) t) := by
    induction xs generalizing t with
    | nil => exact ht
    | cons x xs ih => exact ih _ (cancelIn t x ht)
  exact fold _ s h

theorem reconfigure (hP : KeptInside P) (c : ChanId) (k : ChannelConfig) (hk : k.valid = true) (h : P s) :
    P (s.reconfigure c k) := by
  have filled : P ((s.withdraw fun j => j.channel == c).cancelEntries c).fillPartition :=
    hP.fillFor _ (hP.cancelEntries c (hP.withdraw (fun j => j.channel == c) h))
  refine hP.drive (hP.config _ c k ?_ hk)
  unfold State.settleOldDetection
  dsimp only
  split
  · exact hP.addStateRecord _ _ _ _ _ _ (hP.locks _ _ filled)
  · exact hP.locks _ _ filled

theorem startScan (hP : KeptInside P) (m : SeqMode) (period : Nat) (h : P s) : P (s.startScan m period) := by
  have abandoned := hP.abandon h
  unfold State.startScan
  cases m with
  | stopped => exact abandoned
  | running => exact hP.startPaced _ _ (hP.seq _ _ abandoned)
  | watch => exact hP.startPaced _ _ (hP.seq _ _ abandoned)
  | single => exact hP.drive (hP.seq s.abandon _ abandoned)

theorem foldChannels (f : ChanId → State → State) (hf : ∀ c t, P t → P (f c t)) (cs : List ChanId) (h : P s) :
    P (cs.foldl (fun t c => f c t) s) := by
  induction cs generalizing s with
  | nil => exact h
  | cons c cs ih => exact ih (hf c s h)

theorem startOperation (hP : KeptInside P) (k : OpKind) (p : List Byte) (h : P s) :
    P (s.startOperation k p) := by
  have accepted : P (s.acceptOperation k p) := hP.ops s _ h
  unfold State.startOperation
  cases k with
  | calibrate =>
    exact hP.drive (foldChannels State.startCalibration
      (fun c t ht => hP.addStateRecord _ _ _ _ _ _ (hP.live _ c _ (hP.locks t _ ht))) _ (hP.withdraw _ accepted))
  | measure => exact hP.drive accepted

theorem abortOperation (hP : KeptInside P) (o : Operation) (h : P s) : P (s.abortOperation o) := by
  have released : P ((s.withdraw (Job.ofOp o.opId)).releaseAborted o) := by
    unfold State.releaseAborted
    split
    · exact foldChannels State.abortCalibration
        (fun c t ht => hP.addStateRecord _ _ _ _ _ _ (hP.live t c _ ht)) _ (hP.withdraw _ h)
    · exact hP.withdraw _ h
  exact hP.drive (hP.ops _ _ (hP.record _ _ released))

end KeptInside

namespace KeptByChanges

variable {P : State → Prop} {s : State}

/-! ### Taking and answering requests -/

theorem handler (hP : KeptByChanges P) (x : Handler) (h : P s) : P { s with handler := x } :=
  hP.link s s.line s.delivery x s.resetHeld s.pending h

theorem delivery (hP : KeptByChanges P) (x : Delivery) (h : P s) : P { s with delivery := x } :=
  hP.link s s.line x s.handler s.resetHeld s.pending h

theorem line (hP : KeptByChanges P) (x : Line) (h : P s) : P { s with line := x } :=
  hP.link s x s.delivery s.handler s.resetHeld s.pending h

theorem beginTaking (hP : KeptByChanges P) (rest : List Frame) (h : P s) : P (s.beginTaking rest) :=
  hP.delivery _ (hP.wake _ (hP.handler _ h))

theorem updateCache (hP : KeptByChanges P) (f reply : Frame) (h : P s) : P (s.updateCache f reply) := by
  unfold State.updateCache
  split
  · exact h
  · exact hP.handler _ h

theorem answer (hP : KeptByChanges P) (service : Service) (f : Frame)
    (served : ∀ t, P t → P (service f t).1) (h : P s) : P (s.answer service f) := by
  unfold State.answer
  split
  · exact hP.handler _ h
  · exact hP.updateCache _ _ (hP.handler _ (served s h))

theorem takeRequest (hP : KeptByChanges P) (ofKind : Byte → Bool) (service : Service)
    (served : ∀ f t, P t → P (service f t).1) (h : P s) : P (s.takeRequest ofKind service) := by
  obtain ⟨f, rest, -, -, -, ht⟩ | ht := s.takeRequest_cases ofKind service
  · rw [ht]
    exact hP.answer service f (served f) (hP.beginTaking rest h)
  · rw [ht]
    exact h

theorem request (hP : KeptByChanges P) (k : RequestKind) (serve : List Byte → State → State × Reply)
    (served : ∀ p t, P t → P (serve p t).1) (h : P s) : P (s.request k serve) := by
  refine hP.takeRequest _ _ (fun f t ht => ?_) h
  unfold checked
  split
  · exact ht
  · exact served _ _ ht

theorem guarded (hP : KeptByChanges P) (k : RequestKind) (refuse : List Byte → State → Option Refused)
    (effect : List Byte → State → State) (kept : ∀ p t, refuse p t = none → P t → P (effect p t)) (h : P s) :
    P (s.request k (Machine.guarded refuse effect)) := by
  refine hP.request k _ (fun p t ht => ?_) h
  unfold Machine.guarded
  split
  · exact ht
  · next hr => exact kept p t hr ht

end KeptByChanges

end Sys2Proof.Machine
end

section
/-! The facts that the walk over the commands needs: what an accepted SET_CHANNEL writes is valid, and what an edge or a
REFCLK period leaves within the bounds of a phase. -/

namespace Sys2Proof.Machine

/-! ### The checks of SET_CHANNEL (R13, R14) -/

theorem firstFailing_eq_none {xs : List (Nat × Bool)} : firstFailing xs = none ↔ ∀ x ∈ xs, x.2 = true := by
  rw [firstFailing_eq_find, Option.map_eq_none_iff, List.find?_eq_none]
  simp

theorem byteAt_lt (p : List Byte) (offset : Nat) : byteAt p offset < 256 := (p.getD offset 0).isLt

/-- When SET_CHANNEL is accepted: the channel number, the channel's state and both lists of checks (R13). -/
theorem State.refuseSetChannel_none {p : List Byte} {s : State} (h : s.refuseSetChannel p = none) :
    byteAt p 0 ≤ 23 ∧ s.channels[channelAt p 0].live.state ≠ .calibrating ∧
      firstFailing (rangeChecks p) = none ∧ firstFailing (consistencyChecks (configOf p)) = none := by
  unfold State.refuseSetChannel at h
  split at h
  · cases h
  · next h0 =>
    split at h
    · cases h
    · next h1 =>
      split at h
      · cases h
      · next h2 => exact ⟨Nat.le_of_not_lt h0, h1, h2, Option.map_eq_none_iff.mp h⟩

/-- When the measuring fields are valid, as inequalities (R2, R14). -/
theorem Measuring.valid_iff (m : Measuring) :
    m.valid = true ↔ m.prescale ≤ 8 ∧ (1 ≤ m.gateLength ∧ m.gateLength ≤ 65535) ∧
      (1 ≤ m.cycleCount ∧ m.cycleCount ≤ 4096) ∧ (1 ≤ m.timeout ∧ m.timeout ≤ 65535) ∧ m.settleCycles ≤ 255 ∧
      (m.mode == .interval && m.source.isOsc) = false := by
  simp only [Measuring.valid, inRange, Bool.and_eq_true, Bool.not_eq_true', decide_eq_true_eq, and_assoc]

/-- When a configuration is valid, as inequalities (R2 to R6, R14). -/
theorem ChannelConfig.valid_iff (c : ChannelConfig) :
    c.valid = true ↔ c.measuring.valid = true ∧ (1 ≤ c.delta.onThreshold ∧ c.delta.onThreshold ≤ 65535) ∧
      c.delta.offThreshold < c.delta.onThreshold ∧ (1 ≤ c.delta.settleCount ∧ c.delta.settleCount ≤ 63) ∧
      c.delta.driftStep ≤ 255 ∧ (1 ≤ c.delta.driftInterval ∧ c.delta.driftInterval ≤ 255) ∧
      (1 ≤ c.delta.reverseLimit ∧ c.delta.reverseLimit ≤ 15) ∧ c.delta.holdLimit ≤ 65535 ∧
      c.window.highLimit ≤ 16777215 ∧ c.window.lowLimit ≤ c.window.highLimit ∧
      c.window.hysteresis ≤ c.window.highLimit - c.window.lowLimit ∧ (1 ≤ c.debounceOn ∧ c.debounceOn ≤ 15) ∧
      (1 ≤ c.debounceOff ∧ c.debounceOff ≤ 15) ∧ (1 ≤ c.faultLimit ∧ c.faultLimit ≤ 15) ∧
      (1 ≤ c.changeStep ∧ c.changeStep ≤ 65535) ∧ (c.delta.group.isNone || c.detector == .delta) = true := by
  simp only [ChannelConfig.valid, inRange, Bool.and_eq_true, decide_eq_true_eq, and_assoc]

/-- When the consistency checks pass, as inequalities (R14). -/
theorem consistencyChecks_pass (c : ChannelConfig) :
    firstFailing (consistencyChecks c) = none ↔ (c.measuring.mode == .interval && c.measuring.source.isOsc) = false ∧
      c.delta.offThreshold < c.delta.onThreshold ∧ c.window.lowLimit ≤ c.window.highLimit ∧
      c.window.hysteresis ≤ c.window.highLimit - c.window.lowLimit ∧
      (c.delta.group.isNone || c.detector == .delta) = true := by
  simp only [firstFailing_eq_none, consistencyChecks, List.forall_mem_cons, List.not_mem_nil, false_imp_iff,
    implies_true, and_true, Bool.not_eq_true', decide_eq_true_eq]

/-- What passes both lists of checks is a valid configuration. -/
theorem configOf_valid {p : List Byte} (range : firstFailing (rangeChecks p) = none)
    (consistent : firstFailing (consistencyChecks (configOf p)) = none) : (configOf p).valid = true := by
  have settle := byteAt_lt p 13
  have drift := byteAt_lt p 33
  have hold := fieldAt_lt p 36 2
  have high := fieldAt_lt p 24 3
  rw [consistencyChecks_pass] at consistent
  rw [firstFailing_eq_none] at range
  simp only [rangeChecks, List.forall_mem_cons, inRange, Bool.and_eq_true, decide_eq_true_eq] at range
  rw [ChannelConfig.valid_iff, Measuring.valid_iff]
  simp only [consistent, true_and, and_true]
  simp only [configOf, range, true_and, and_true]
  omega

/-! ### Ticks (R21, R26) -/

/-- A tick period is at least one REFCLK period (R21). -/
theorem Measuring.refclk_le_tickPeriod (m : Measuring) : Config.refclkTime ≤ m.tickPeriod :=
  Nat.le_mul_of_pos_left _ (Nat.two_pow_pos _)

theorem Measuring.tickPeriod_pos (m : Measuring) : 0 < m.tickPeriod :=
  lt_of_lt_of_le (by decide) m.refclk_le_tickPeriod

/-- One REFCLK period more is at most one tick more. -/
theorem Measuring.ticks_add_refclk (m : Measuring) (t : Nat) :
    (t + Config.refclkTime) / m.tickPeriod ≤ t / m.tickPeriod + 1 := by
  rw [← Nat.add_div_right t m.tickPeriod_pos]
  exact Nat.div_le_div_right (Nat.add_le_add_left m.refclk_le_tickPeriod t)

/-! ### The bounds of a running job (R26, R29 to R32) -/

@[simp] theorem Running.pass_job (dt : Nat) (r : Running) : (r.pass dt).job = r.job := rfl
@[simp] theorem Running.pass_cell (dt : Nat) (r : Running) : (r.pass dt).cell = r.cell := rfl
@[simp] theorem Running.pass_phase (dt : Nat) (r : Running) : (r.pass dt).phase = r.phase := rfl
@[simp] theorem Running.pass_edges (dt : Nat) (r : Running) : (r.pass dt).edges = r.edges := rfl
@[simp] theorem Running.pass_gateOpen (dt : Nat) (r : Running) : (r.pass dt).gateOpen = r.gateOpen := rfl

@[simp] theorem Running.settle_job (r : Running) : r.settle.job = r.job := by unfold Running.settle; split <;> rfl
@[simp] theorem Running.settle_cell (r : Running) : r.settle.cell = r.cell := by unfold Running.settle; split <;> rfl

/-- An open gate is phase COUNT in mode GATED. -/
theorem Running.gateOpen_iff (r : Running) :
    r.gateOpen = true ↔ r.phase = .count ∧ r.job.snapshot.mode = .gated := by
  simp [Running.gateOpen]

theorem Running.inTime_gate {r : Running} (h : r.gateOpen = true) :
    r.inTime = true ↔ r.edges ≤ Config.edgeMax ∧ r.ticks ≤ r.job.snapshot.gateLength := by
  simp [Running.inTime, h]

theorem Running.inTime_span {r : Running} (h : r.gateOpen = false) :
    r.inTime = true ↔
      r.spanTicks ≤ r.job.snapshot.timeout ∧ (r.phase = .count → r.tickTime ≤ r.spanTime) := by
  simp [Running.inTime, h, ← imp_iff_not_or]

/-- In COUNT the tick counter, and within a span the span counter, takes the time that passes. -/
theorem Running.pass_times (dt : Nat) (r : Running) :
    (r.phase = .count → (r.pass dt).tickTime = r.tickTime + dt) ∧
      (r.gateOpen = false → (r.pass dt).spanTime = r.spanTime + dt) := by
  constructor <;> intro h <;> simp [Running.pass, h]

/-- Time that does not take a unit past its expiry keeps its counters within their bounds. -/
theorem Running.inTime_pass {r : Running} {dt : Nat} (h : r.inTime = true) (past : (r.pass dt).isPast = false) :
    (r.pass dt).inTime = true := by
  cases hg : r.gateOpen with
  | true =>
    have hg' : (r.pass dt).gateOpen = true := hg
    rw [Running.inTime_gate hg] at h
    rw [Running.isPast_gate hg'] at past
    exact (Running.inTime_gate hg').mpr ⟨h.1, Nat.div_le_of_le_mul (by rwa [Nat.mul_comm])⟩
  | false =>
    have hg' : (r.pass dt).gateOpen = false := hg
    rw [Running.inTime_span hg] at h
    rw [Running.isPast_span hg'] at past
    refine (Running.inTime_span hg').mpr ⟨Nat.div_le_of_le_mul (by rw [Nat.mul_comm]; exact past.1), fun hc => ?_⟩
    rw [(r.pass_times dt).1 hc, (r.pass_times dt).2 hg]
    exact Nat.add_le_add_right (h.2 hc) dt

/-- One REFCLK period keeps the counters of a unit that is not due within their bounds. -/
theorem Running.inTime_refclk {r : Running} (h : r.inTime = true) (due : r.isDue = false) :
    (r.pass Config.refclkTime).inTime = true := by
  cases hg : r.gateOpen with
  | true =>
    have hg' : (r.pass Config.refclkTime).gateOpen = true := hg
    have below : r.ticks < r.job.snapshot.gateLength := by simpa [Running.isDue, hg] using due
    rw [Running.inTime_gate hg] at h
    refine (Running.inTime_gate hg').mpr ⟨h.1, ?_⟩
    have := r.job.snapshot.ticks_add_refclk r.tickTime
    rw [Running.ticks, (r.pass_times _).1 (r.gateOpen_iff.mp hg).1]
    exact this.trans below
  | false =>
    have hg' : (r.pass Config.refclkTime).gateOpen = false := hg
    have below : r.spanTicks < r.job.snapshot.timeout := by simpa [Running.isDue, Running.inSpan, hg] using due
    rw [Running.inTime_span hg] at h
    refine (Running.inTime_span hg').mpr ⟨?_, fun hc => ?_⟩
    · have := r.job.snapshot.ticks_add_refclk r.spanTime
      rw [Running.spanTicks, (r.pass_times _).2 hg]
      exact this.trans below
    · rw [(r.pass_times _).1 hc, (r.pass_times _).2 hg]
      exact Nat.add_le_add_right (h.2 hc) _

/-- A unit whose counters have just been cleared stands within its bounds. -/
theorem Running.inTime_cleared {r : Running} (edges : r.edges = 0) (ticks : r.tickTime = 0) (span : r.spanTime = 0) :
    r.inTime = true := by
  cases hg : r.gateOpen with
  | true => simp [Running.inTime_gate hg, edges, Running.ticks, ticks]
  | false => simp [Running.inTime_span hg, Running.spanTicks, span, ticks]

theorem Running.inTime_start (j : Job) (cell : Option CellId) : (Running.start j cell).inTime = true :=
  Running.inTime_cleared rfl rfl rfl

/-- Where no gate is open the edge counter is not bounded by time. -/
theorem Running.inTime_edges {r : Running} (hg : r.gateOpen = false) (n : Nat) :
    Running.inTime { r with edges := n } = r.inTime := by
  have hg' : Running.gateOpen { r with edges := n } = false := hg
  rw [Bool.eq_iff_iff, Running.inTime_span hg, Running.inTime_span hg']
  rfl

theorem Running.inTime_settle {r : Running} (h : r.inTime = true) (phase : r.phase = .settle) :
    r.settle.inTime = true := by
  unfold Running.settle
  split
  · exact Running.inTime_cleared rfl rfl rfl
  · rw [Running.inTime_edges (by simp [Running.gateOpen, phase])]
    exact h

theorem Running.inTime_armed {r : Running} (h : r.inTime = true) (phase : r.phase = .arm)
    (mode : r.job.snapshot.mode ≠ .gated) : r.armed.inTime = true := by
  have hg : r.gateOpen = false := by simp [Running.gateOpen, phase]
  have hg' : r.armed.gateOpen = false := by simp [Running.gateOpen, Running.armed, mode]
  rw [Running.inTime_span hg] at h
  exact (Running.inTime_span hg').mpr ⟨h.1, fun _ => Nat.zero_le _⟩

theorem Running.isIn_iff {phase : Phase} {mode : Mode} {r : Running} :
    r.isIn phase mode = true ↔ r.phase = phase ∧ r.job.snapshot.mode = mode := by
  simp [Running.isIn]

end Sys2Proof.Machine
end

section
/-! The walk over the commands: what is kept by the single changes is kept by every command and by every step. -/

namespace Sys2Proof.Machine

/-! ### Time (R21, R66, R167) -/

/-- Where no time-driven step is due, no unit's is. -/
theorem State.isDue_of_timeDue {s : State} (h : s.timeDue = false) {u : UnitId} {r : Running}
    (hr : s.res.units[u] = some r) : r.isDue = false := by
  unfold State.timeDue at h
  simp only [Bool.or_eq_false_iff, List.any_eq_false] at h
  have := h.2 (some r) (by rw [← hr]; exact Vector.mem_toList_iff.mpr (Vector.getElem_mem _))
  simpa using this

theorem State.passUnit_other {u v : UnitId} (s : State) (h : u ≠ v) :
    (s.passUnit u).res.units[v] = s.res.units[v] := by
  unfold State.passUnit
  split
  · rfl
  · exact s.setUnit_other u v _ h

namespace KeptByChanges

variable {P : State → Prop} {s : State}

theorem passUnit (hP : KeptByChanges P) (u : UnitId) (due : ∀ r, s.res.units[u] = some r → r.isDue = false)
    (h : P s) : P (s.passUnit u) := by
  unfold State.passUnit
  split
  · exact h
  · next r hr => exact hP.unit s u r _ h hr rfl rfl fun ht => Running.inTime_refclk ht (due r hr)

theorem passUnits (hP : KeptByChanges P) (us : List UnitId) (distinct : us.Nodup)
    (due : ∀ u ∈ us, ∀ r, s.res.units[u] = some r → r.isDue = false) (h : P s) :
    P (us.foldl (fun t u => t.passUnit u) s) := by
  induction us generalizing s with
  | nil => exact h
  | cons u us ih =>
    rw [List.nodup_cons] at distinct
    refine ih distinct.2 (fun v hv r hr => ?_) (hP.passUnit u (due u List.mem_cons_self) h)
    have ne : u ≠ v := fun e => distinct.1 (e ▸ hv)
    rw [s.passUnit_other ne] at hr
    exact due v (List.mem_cons_of_mem _ hv) r hr

theorem idle (hP : KeptByChanges P) (h : P s) : P s.idle := by
  unfold State.idle
  cases hd : s.timeDue with
  | true => exact h
  | false =>
    refine hP.passUnits [0, 1, 2, 3] (by decide) (fun u _ r hr => ?_)
      (hP.delivery _ (hP.seq s { s.seq with timer := s.seq.timer.map Timer.pass } h))
    exact State.isDue_of_timeDue hd (u := u) hr

/-! ### The commands -/

theorem resets (hP : KeptByChanges P) (speed : LineSpeed) (h : P s) :
    Yields P (execPowerReset speed s) ∧ Yields P (execPinReset speed s) ∧ Yields P (execSoftReset speed s) := by
  refine ⟨.next (hP.reset _ _ _ _ _ h), .next (hP.reset _ _ _ _ _ h), ?_⟩
  unfold execSoftReset
  split
  · exact .next (hP.reset _ _ _ _ _ h)
  · exact .next h

theorem arriveRequest (hP : KeptByChanges P) (f : Frame) (h : P s) : P (s.arriveRequest f) := by
  have woken : P (State.endStalled (State.wake .host (s.setReceiver .hunt))) :=
    hP.delivery _ (hP.wake _ (hP.line _ h))
  unfold State.arriveRequest State.offerRequest
  split
  · exact hP.handler _ woken
  · exact hP.line _ woken

/-- The commands of the receiver. -/
theorem receiving (hP : KeptByChanges P) (b : Byte) (h : P s) :
    Yields P (execByteReceived b s) ∧ Yields P (execLengthDiscard b s) ∧ Yields P (execCrcMismatch b s) ∧
      Yields P (execForeignFrame b s) ∧ Yields P (execAck b s) ∧ Yields P (execRequestFrameArrival b s) := by
  refine ⟨?_, ?_, ?_, ?_, ?_, ?_⟩
  · unfold execByteReceived; split
    exacts [.next (hP.line _ h), .next h]
  · unfold execLengthDiscard; split
    exacts [.next (hP.line _ h), .next h]
  · unfold execCrcMismatch; split
    exacts [.next (hP.line _ h), .next h]
  · unfold execForeignFrame; split
    exacts [.next (hP.line _ h), .next h]
  · unfold execAck; split
    exacts [.next (hP.delivery _ (hP.line _ h)), .next h]
  · unfold execRequestFrameArrival; split
    exacts [.next (hP.arriveRequest _ h), .next h]

theorem gapTimeout (hP : KeptByChanges P) (h : P s) : Yields P (execGapTimeout s) := by
  unfold execGapTimeout
  split
  exacts [.next (hP.line _ h), .next h]

theorem replyTransmission (hP : KeptByChanges P) (h : P s) : Yields P (execReplyTransmission s) := by
  unfold execReplyTransmission
  split
  · exact .next h
  · split
    exacts [.next (hP.line _ (hP.handler _ h)), .next h]

theorem firstTransmission (hP : KeptByChanges P) (h : P s) : Yields P (execFirstTransmission s) := by
  unfold execFirstTransmission
  split
  · exact .next h
  · next body q hq =>
    split
    exacts [.next (hP.line _ (hP.delivery _ (hP.offered s body q h hq))), .next h]

theorem noticeResend (hP : KeptByChanges P) (h : P s) : Yields P (execNoticeResend s) := by
  unfold execNoticeResend
  split
  · exact .next h
  · split
    exacts [.next (hP.line _ (hP.delivery _ h)), .next h]

theorem frameEnd (hP : KeptByChanges P) (h : P s) : Yields P (execFrameEnd s) := by
  unfold execFrameEnd
  split
  · exact .next h
  · split
    exacts [.next h, .next (hP.delivery _ (hP.line { s.line with tx := none } h))]

theorem ackTimerExpiry (hP : KeptByChanges P) (h : P s) : Yields P (execAckTimerExpiry s) := by
  unfold execAckTimerExpiry
  split
  exacts [.next (hP.delivery _ h), .next h]

theorem roundTimerExpiry (hP : KeptByChanges P) (h : P s) : Yields P (execRoundTimerExpiry s) := by
  unfold execRoundTimerExpiry
  split
  · exact .next h
  · dsimp only
    split
    · refine .next ?_
      unfold State.overrun
      dsimp only
      split
      · exact hP.seq s _ h
      · exact hP.record _ _ (hP.seq s _ h)
    · exact .next (hP.drive (hP.seq s _ h))

/-- An edge that a unit takes leaves its job there, with counters within their bounds. -/
theorem edge (hP : KeptByChanges P) {u : UnitId} {dt : Nat} {test : Running → Bool} {q r : Running} (h : P s)
    (hq : s.takesEdge u dt test = some q) (job : r.job = q.job) (cell : r.cell = q.cell)
    (bound : test q = true → q.inTime = true → r.inTime = true)
    (stays : ∀ x, test (Running.pass dt x) = test x) : P (s.setUnit u r) := by
  obtain ⟨x, hx, passes, rfl, past⟩ := State.takesEdge_some hq
  refine hP.unit s u x r h hx job cell fun ht => bound ?_ (Running.inTime_pass ht past)
  rw [stays, passes]

/-- A job that completes at an edge. -/
theorem completesAt (hP : KeptByChanges P) {u : UnitId} {dt : Nat} {test : Running → Bool} {q : Running} (h : P s)
    (hq : s.takesEdge u dt test = some q) (reading : Reading) : P (s.completeJob u q reading) := by
  obtain ⟨x, hx, -, rfl, -⟩ := State.takesEdge_some hq
  exact hP.completeJob u x _ reading h hx rfl rfl

theorem settleEdge (hP : KeptByChanges P) (u : UnitId) (dt : Nat) (h : P s) : Yields P (execSettleEdge u dt s) := by
  unfold execSettleEdge
  split
  · next r hr =>
    exact .next (hP.edge h hr r.settle_job r.settle_cell
      (fun hp ht => Running.inTime_settle ht (by simpa using hp)) fun _ => rfl)
  · exact .next h

theorem gateEdge (hP : KeptByChanges P) (u : UnitId) (dt : Nat) (h : P s) : Yields P (execGateEdge u dt s) := by
  unfold execGateEdge
  split
  · next r hr =>
    refine .next (hP.edge h hr rfl rfl (fun hg ht => ?_) fun _ => rfl)
    rw [Running.inTime_gate hg] at ht
    exact (Running.inTime_gate (r := { r with edges := min (r.edges + 1) Config.edgeMax }) hg).mpr
      ⟨Nat.min_le_right _ _, ht.2⟩
  · exact .next h

theorem gateClose (hP : KeptByChanges P) (u : UnitId) (h : P s) : Yields P (execGateClose u s) := by
  unfold execGateClose
  split
  · next r hr =>
    split
    exacts [.next (hP.completeJob u r r _ h hr rfl rfl), .next h]
  · exact .next h

theorem armingEdge (hP : KeptByChanges P) (u : UnitId) (dt : Nat) (h : P s) : Yields P (execArmingEdge u dt s) := by
  unfold execArmingEdge
  split
  · next r hr =>
    refine .next (hP.edge h hr rfl rfl (fun hi ht => ?_) fun _ => rfl)
    obtain ⟨phase, mode⟩ := Running.isIn_iff.mp hi
    exact Running.inTime_armed ht phase (by simp [mode])
  · exact .next h

theorem periodEdge (hP : KeptByChanges P) (u : UnitId) (dt : Nat) (h : P s) : Yields P (execPeriodEdge u dt s) := by
  unfold execPeriodEdge
  split
  · next r hr =>
    split
    · exact .next (hP.completesAt h hr _)
    · refine .next (hP.edge h hr rfl rfl (fun hi ht => ?_) fun _ => rfl)
      rwa [Running.inTime_edges (by simp [Running.gateOpen, Running.isIn_iff.mp hi])]
  · exact .next h

theorem intervalArmingEdge (hP : KeptByChanges P) (u : UnitId) (e : Edge) (dt : Nat) (h : P s) :
    Yields P (execIntervalArmingEdge u e dt s) := by
  unfold execIntervalArmingEdge
  split
  · next r hr =>
    refine .next ?_
    split
    · refine hP.edge h hr rfl rfl (fun hi ht => ?_) fun _ => rfl
      obtain ⟨phase, mode⟩ := Running.isIn_iff.mp hi
      exact Running.inTime_armed ht phase (by simp [mode])
    · exact hP.edge h hr rfl rfl (fun _ ht => ht) fun _ => rfl
  · exact .next h

theorem intervalFinalEdge (hP : KeptByChanges P) (u : UnitId) (e : Edge) (dt : Nat) (h : P s) :
    Yields P (execIntervalFinalEdge u e dt s) := by
  unfold execIntervalFinalEdge
  split
  · next r hr =>
    split
    · exact .next (hP.completesAt h hr _)
    · exact .next (hP.edge h hr rfl rfl (fun _ ht => ht) fun _ => rfl)
  · exact .next h

theorem spanTimeout (hP : KeptByChanges P) (u : UnitId) (h : P s) : Yields P (execSpanTimeout u s) := by
  unfold execSpanTimeout
  split
  · next r hr =>
    split
    exacts [.next h, .next (hP.completeJob u r r _ h hr rfl rfl)]
  · exact .next h

/-- The commands of the request handler that carry out one defined kind. -/
theorem requests (hP : KeptByChanges P) {c : Instr} {k : RequestKind} (hk : requestKindOf c = some k) (h : P s) :
    Yields P (exec c s) := by
  cases c <;> simp only [requestKindOf, reduceCtorEq] at hk
  case ping => exact .next (hP.request _ _ (fun _ _ ht => ht) h)
  case getStatus => exact .next (hP.request _ _ (fun _ _ ht => ht) h)
  case setLink =>
    refine .next (hP.request _ _ (fun p t ht => ?_) h)
    unfold serveSetLink
    split
    exacts [ht, hP.delivery _ ht]
  case setChannel =>
    refine .next (hP.guarded _ _ _ (fun p t accepted ht => ?_) h)
    obtain ⟨-, -, range, consistent⟩ := State.refuseSetChannel_none accepted
    exact hP.reconfigure _ _ (configOf_valid range consistent) ht
  case getChannel =>
    refine .next (hP.request _ _ (fun p t ht => ?_) h)
    unfold serveGetChannel
    split <;> exact ht
  case setScan => exact .next (hP.guarded _ _ _ (fun _ t _ ht => hP.seq t _ ht) h)
  case getScan => exact .next (hP.request _ _ (fun _ _ ht => ht) h)
  case scanStart => exact .next (hP.guarded _ _ _ (fun _ _ _ ht => hP.startScan _ _ ht) h)
  case scanStop => exact .next (hP.request _ _ (fun _ t ht => hP.seq t.abandon _ (hP.abandon ht)) h)
  case calibrate =>
    refine .next (hP.request _ _ (fun p t ht => ?_) h)
    unfold serveOperation
    split
    exacts [ht, hP.startOperation .calibrate p ht]
  case measure =>
    refine .next (hP.request _ _ (fun p t ht => ?_) h)
    unfold serveOperation
    split
    exacts [ht, hP.startOperation .measure p ht]
  case abortOp =>
    refine .next (hP.request _ _ (fun p t ht => ?_) h)
    unfold serveAbortOp
    split
    exacts [ht, hP.abortOperation _ ht]
  case flushNotices =>
    refine .next (hP.request _ _ (fun p t ht => ?_) h)
    unfold serveFlush
    split
    · exact ht
    · exact hP.delivery _ (hP.flushed t _ ht)
  case resetPart => exact .next (hP.request _ _ (fun _ _ ht => hP.handler _ ht) h)

/-- Every command answers a next state, and with it keeps what the single changes keep. -/
theorem exec (hP : KeptByChanges P) (c : Instr) (h : P s) : Yields P (exec c s) := by
  cases hk : requestKindOf c with
  | some k => exact hP.requests hk h
  | none =>
    cases c <;> simp only [requestKindOf, reduceCtorEq] at hk
    case powerReset speed => exact (hP.resets speed h).1
    case pinReset speed => exact (hP.resets speed h).2.1
    case softReset speed => exact (hP.resets speed h).2.2
    case undefinedRequestKind => exact .next (hP.takeRequest _ _ (fun _ _ ht => ht) h)
    case byteReceived b => exact (hP.receiving b h).1
    case lengthDiscard b => exact (hP.receiving b h).2.1
    case crcMismatch b => exact (hP.receiving b h).2.2.1
    case foreignFrame b => exact (hP.receiving b h).2.2.2.1
    case ack b => exact (hP.receiving b h).2.2.2.2.1
    case requestFrameArrival b => exact (hP.receiving b h).2.2.2.2.2
    case gapTimeout => exact hP.gapTimeout h
    case replyTransmission => exact hP.replyTransmission h
    case firstTransmission => exact hP.firstTransmission h
    case noticeResend => exact hP.noticeResend h
    case frameEnd => exact hP.frameEnd h
    case ackTimerExpiry => exact hP.ackTimerExpiry h
    case roundTimerExpiry => exact hP.roundTimerExpiry h
    case settleEdge u dt => exact hP.settleEdge u dt h
    case gateEdge u dt => exact hP.gateEdge u dt h
    case gateClose u => exact hP.gateClose u h
    case armingEdge u dt => exact hP.armingEdge u dt h
    case periodEdge u dt => exact hP.periodEdge u dt h
    case intervalArmingEdge u e dt => exact hP.intervalArmingEdge u e dt h
    case intervalFinalEdge u e dt => exact hP.intervalFinalEdge u e dt h
    case spanTimeout u => exact hP.spanTimeout u h
    case resetHeldLow =>
      exact .next (hP.link s { s.line with tx := none } s.delivery s.handler true s.pending h)

/-- Every step answers a next state, and with it keeps what the single changes keep. -/
theorem step (hP : KeptByChanges P) (h : P s) : Yields P (step s) := by
  unfold Machine.step
  split
  · exact .next (hP.idle h)
  · next c rest _ =>
    exact hP.exec c (hP.link s s.line s.delivery s.handler s.resetHeld rest h)

theorem of_step (hP : KeptByChanges P) {t : State} (h : P s) (ht : Machine.step s = .next t) : P t :=
  Yields.of_next (ht ▸ hP.step h)

end KeptByChanges

end Sys2Proof.Machine
end

section
/-! The jobs waiting and running: what a grant, a release and a grant pass do with them (R35, R42, R46 to R49). A grant
pass moves jobs from the queue to the units and loses none, so it keeps the jobs up to their order and pass counts. -/

namespace Sys2Proof.Machine

/-! ### The running jobs -/

theorem mem_units (u : UnitId) : u ∈ ([0, 1, 2, 3] : List UnitId) := by
  revert u
  decide

theorem Resources.mem_running {res : Resources} {x : UnitId × Running} :
    x ∈ res.running ↔ res.units[x.1] = some x.2 := by
  obtain ⟨u, r⟩ := x
  simp only [Resources.running, List.mem_filterMap, Option.map_eq_some_iff, Prod.mk.injEq]
  constructor
  · rintro ⟨v, -, q, hq, rfl, rfl⟩
    exact hq
  · exact fun h => ⟨u, mem_units u, r, h, rfl, rfl⟩

/-- Giving a value to one key of a partial function adds one pair to its list. -/
theorem filterMap_perm_cons {α β : Type} {f g : α → Option β} {a : α} {b : β} (xs : List α) (distinct : xs.Nodup)
    (mem : a ∈ xs) (hf : f a = none) (hg : g a = some b) (others : ∀ x, x ≠ a → g x = f x) :
    (xs.filterMap g).Perm (b :: xs.filterMap f) := by
  obtain ⟨pre, post, rfl⟩ := List.append_of_mem mem
  rw [List.nodup_append, List.nodup_cons] at distinct
  obtain ⟨-, ⟨notPost, -⟩, apart⟩ := distinct
  have hpre : pre.filterMap g = pre.filterMap f :=
    List.filterMap_congr fun x hx => others x fun e => apart x hx a List.mem_cons_self e
  have hpost : post.filterMap g = post.filterMap f :=
    List.filterMap_congr fun x hx => others x fun e => notPost (e ▸ hx)
  simp only [List.filterMap_append, List.filterMap_cons, hf, hg, hpre, hpost]
  exact List.perm_middle

/-- A FREE unit that takes a job adds it to the running jobs. -/
theorem Resources.running_set {res res' : Resources} {u : UnitId} {r : Running} (free : res.units[u] = none)
    (set : res'.units = res.units.set u (some r)) : res'.running.Perm ((u, r) :: res.running) := by
  refine filterMap_perm_cons (a := u) _ (by decide) (mem_units u) (by simp [free]) (by simp [set]) ?_
  intro v hv
  rw [set, getElem_set_fin, if_neg hv.symm]

/-- A unit that becomes FREE takes its job out of the running jobs. -/
theorem Resources.running_release {res : Resources} {u : UnitId} {r q : Running} (busy : res.units[u] = some q) :
    res.running.Perm ((u, q) :: (res.release u r).running) := by
  refine Resources.running_set (res := res.release u r) (r := q) ?_ ?_
  · simp [Resources.release]
  · rw [Fin.getElem_fin] at busy
    simp only [Resources.release, Vector.set_set]
    rw [← busy, Vector.set_getElem_self]

theorem Resources.running_grant {res : Resources} {u : UnitId} (free : res.units[u] = none) (j : Job)
    (cell : Option CellId) :
    (res.grant j u cell).running.Perm ((u, Running.start j cell) :: res.running) :=
  Resources.running_set free rfl

/-! ### Jobs without their pass counts -/

/-- A job without its pass count: what a grant pass keeps of it. -/
def Job.bare (j : Job) : Job := { j with passCount := 0 }

@[simp] theorem Job.bare_origin (j : Job) : j.bare.origin = j.origin := rfl
@[simp] theorem Job.bare_channel (j : Job) : j.bare.channel = j.channel := rfl
@[simp] theorem Job.bare_snapshot (j : Job) : j.bare.snapshot = j.snapshot := rfl
@[simp] theorem Job.bare_isScan (j : Job) : j.bare.isScan = j.isScan := rfl
@[simp] theorem Job.bare_isOp (j : Job) : j.bare.isOp = j.isOp := rfl
@[simp] theorem Job.bare_ofOp (id : Nat) (j : Job) : j.bare.ofOp id = j.ofOp id := rfl
@[simp] theorem Job.bare_samples (o : Operation) (j : Job) : j.bare.samples o = j.samples o := rfl
@[simp] theorem Sequencer.owns_bare (q : Sequencer) (j : Job) : q.owns j.bare = q.owns j := rfl

/-- What a job without its pass count says of both jobs. -/
theorem Job.bare_eq {j k : Job} (h : j.bare = k.bare) :
    j.origin = k.origin ∧ j.channel = k.channel ∧ j.snapshot = k.snapshot := by
  simp only [Job.bare, Job.mk.injEq, and_true] at h
  exact h

/-- The jobs that stay waiting after a walk are some of those it marked, in their order. -/
theorem raisePassCounts_sublist (marks : List (Job × Bool)) :
    ((raisePassCounts marks).1.map Job.bare).Sublist (marks.map fun x => x.1.bare) := by
  induction marks with
  | nil => exact .slnil
  | cons x xs ih =>
    obtain ⟨j, granted⟩ := x
    unfold raisePassCounts
    dsimp only
    split
    · exact ih.cons _
    · split <;> exact ih.cons_cons _

theorem grantWalk_bare (watch : Bool) (js : List Job) (res : Resources) :
    (grantWalk watch js res).1.map (fun x => x.1.bare) = js.map Job.bare := by
  conv_rhs => rw [← grantWalk_jobs watch js res, List.map_map]
  rfl

/-- A walk loses no job: those that stay waiting and those that run afterwards are those that waited and ran. -/
theorem grantWalk_perm (watch : Bool) (js : List Job) (res : Resources) :
    (((raisePassCounts (grantWalk watch js res).1).1 ++
        (grantWalk watch js res).2.running.map fun x => x.2.job).map Job.bare).Perm
      ((js ++ res.running.map fun x => x.2.job).map Job.bare) := by
  induction js generalizing res with
  | nil => exact .refl _
  | cons j js ih =>
    unfold grantWalk
    split
    · next u cell offered =>
      have free := (Resources.freeUnit_some (Resources.offer_some offered).1).1
      refine (ih (res.grant j u cell)).trans ?_
      have moved := ((Resources.running_grant free j cell).map fun x => x.2.job)
      refine ((moved.append_left js).trans ?_).map _
      exact List.perm_middle
    · split
      · have kept := (ih res).cons j.bare
        simp only [raisePassCounts, Bool.false_eq_true, if_false]
        split <;> exact kept
      · rw [raisePassCounts_none _ (by simp)]
        simp [Function.comp_def]

/-- A grant pass keeps the jobs, waiting and running, up to their order and pass counts. -/
theorem State.grantPass_jobs (s : State) : (s.grantPass.jobs.map Job.bare).Perm (s.jobs.map Job.bare) :=
  grantWalk_perm _ _ _

theorem State.mem_jobs_grantPass {s : State} {j : Job} (h : j ∈ s.grantPass.jobs) : ∃ k ∈ s.jobs, k.bare = j.bare := by
  have := s.grantPass_jobs.mem_iff.mp (List.mem_map_of_mem h)
  obtain ⟨k, hk, e⟩ := List.mem_map.mp this
  exact ⟨k, hk, e⟩

/-- The job that an issue enters (R41, R42). -/
def State.newJob (s : State) (o : Origin) (c : ChanId) : Job :=
  { origin := o, channel := c, snapshot := s.channels[c].config.measuring, passCount := 0 }

theorem State.enterJob_jobs (o : Origin) (c : ChanId) (s : State) :
    ((s.enterJob o c).jobs.map Job.bare).Perm ((s.newJob o c :: s.jobs).map Job.bare) := by
  refine (State.grantPass_jobs _).trans (List.Perm.map _ ?_)
  show (s.queue ++ [s.newJob o c] ++ s.res.running.map fun x => x.2.job).Perm _
  rw [List.append_assoc]
  exact List.perm_middle

theorem State.mem_jobs_enterJob {s : State} {o : Origin} {c : ChanId} {j : Job} (h : j ∈ (s.enterJob o c).jobs) :
    j.bare = s.newJob o c ∨ ∃ k ∈ s.jobs, k.bare = j.bare := by
  have := (s.enterJob_jobs o c).mem_iff.mp (List.mem_map_of_mem h)
  obtain ⟨k, hk, e⟩ := List.mem_map.mp this
  rcases List.mem_cons.mp hk with rfl | hk
  · exact .inl e.symm
  · exact .inr ⟨k, hk, e⟩

/-- A release takes the unit's job out of the jobs and leaves the others. -/
theorem State.release_jobs {s : State} {u : UnitId} {r : Running} (busy : s.res.units[u] = some r) :
    s.jobs.Perm (r.job :: State.jobs { s with res := s.res.release u r }) := by
  have moved := (Resources.running_release (r := r) busy).map fun x => x.2.job
  refine (moved.append_left s.queue).trans ?_
  exact List.perm_middle

/-- A unit whose run changes but not its job leaves the jobs as they are. -/
theorem State.setUnit_jobs {s : State} {u : UnitId} {q r : Running} (hq : s.res.units[u] = some q)
    (job : r.job = q.job) : (s.setUnit u r).jobs = s.jobs := by
  unfold State.jobs Resources.running
  rw [List.map_filterMap, List.map_filterMap]
  congr 1
  refine List.filterMap_congr fun v _ => ?_
  simp only [State.setUnit, getElem_set_fin]
  split
  · next e =>
    subst e
    simp [hq, job]
  · rfl

/-! ### What a walk keeps of the resources -/

/-- What is true of the resources and kept by every grant is true after a walk. -/
theorem grantWalk_keeps {watch : Bool} (Q : Resources → Prop) (js : List Job)
    (grant : ∀ j ∈ js, ∀ res u cell, Q res → res.offer watch j = some (u, cell) → Q (res.grant j u cell))
    (res : Resources) (h : Q res) : Q (grantWalk watch js res).2 := by
  induction js generalizing res with
  | nil => exact h
  | cons j js ih =>
    have rest := ih fun k hk => grant k (List.mem_cons_of_mem _ hk)
    unfold grantWalk
    split
    · next u cell offered => exact rest _ (grant j List.mem_cons_self res u cell h offered)
    · split
      · exact rest _ h
      · exact h

/-! ### Ranges (R2 to R6, R26, R29 to R32, R41) -/

/-- Configurations, snapshots and counters stand in their ranges. -/
def State.InRanges (s : State) : Prop := s.ConfigsValid ∧ s.SnapshotsValid ∧ s.ClocksSound

theorem State.InRanges.grantPass {s : State} (h : s.InRanges) : s.grantPass.InRanges := by
  obtain ⟨configs, snapshots, clocks⟩ := h
  refine ⟨configs, fun j hj => ?_, ?_⟩
  · obtain ⟨k, hk, e⟩ := State.mem_jobs_grantPass hj
    rw [← (Job.bare_eq e).2.2]
    exact snapshots k hk
  · refine grantWalk_keeps (fun res => ∀ x ∈ res.running, x.2.inTime = true) _ ?_ s.res clocks
    intro j _ res u cell hres offered x hx
    have free := (Resources.freeUnit_some (Resources.offer_some offered).1).1
    rcases List.mem_cons.mp ((Resources.running_grant free j cell).mem_iff.mp hx) with rfl | hx
    · exact Running.inTime_start j cell
    · exact hres x hx

theorem State.configsValid_writeConfig {s : State} (h : s.ConfigsValid) (c : ChanId) {k : ChannelConfig}
    (hk : k.valid = true) : (s.writeConfig c k).ConfigsValid := by
  intro d
  by_cases e : c = d
  · subst e
    rw [s.writeConfig_self]
    exact hk
  · rw [s.writeConfig_other c d k e]
    exact h d

theorem resetChannels_get (c : ChanId) : resetChannels[c] = Channel.reset c := by
  simp [resetChannels]

theorem ChannelConfig.default_valid (c : ChanId) : (ChannelConfig.default c).valid = true := by
  revert c
  decide

theorem State.afterReset_jobs (k : ResetKind) (speed : LineSpeed) (p : LinkParams) (held : Bool) (s : State) :
    (s.afterReset k speed p held).jobs = [] := rfl

/-- Each single change of a block keeps the ranges. -/
theorem State.inRanges_kept : KeptByChanges State.InRanges where
  seq _ _ h := h
  ops _ _ h := h
  choices _ _ h := h
  link _ _ _ _ _ _ h := h
  locks _ _ h := h
  live s c l h := by
    refine ⟨fun d => ?_, h.2⟩
    rw [s.setLive_config]
    exact h.1 d
  config s c k h hk := ⟨State.configsValid_writeConfig h.1 c hk, h.2⟩
  record _ _ h := h
  offered _ _ _ h _ := h
  flushed _ _ h := h
  granted _ h := h.grantPass
  entered s o c h _ := by
    refine State.InRanges.grantPass ⟨h.1, fun j hj => ?_, h.2.2⟩
    rcases List.mem_append.mp hj with hj | hj
    · rcases List.mem_append.mp hj with hj | hj
      · exact h.2.1 j (List.mem_append_left _ hj)
      · rw [List.mem_singleton.mp hj]
        exact (ChannelConfig.valid_iff _).mp (h.1 c) |>.1
    · exact h.2.1 j (List.mem_append_right _ hj)
  dropped s named h := by
    refine ⟨h.1, fun j hj => h.2.1 j ?_, h.2.2⟩
    rcases List.mem_append.mp hj with hj | hj
    · exact List.mem_append_left _ (List.mem_of_mem_filter hj)
    · exact List.mem_append_right _ hj
  released s u r h hr :=
    ⟨h.1, fun j hj => h.2.1 j ((State.release_jobs hr).mem_iff.mpr (List.mem_cons_of_mem _ hj)),
      fun x hx => h.2.2 x ((Resources.running_release hr).mem_iff.mpr (List.mem_cons_of_mem _ hx))⟩
  unit s u q r h hq job _ bound := by
    refine ⟨h.1, fun j hj => h.2.1 j (State.setUnit_jobs hq job ▸ hj), ?_⟩
    rintro ⟨v, x⟩ hx
    rw [Resources.mem_running] at hx
    by_cases e : u = v
    · subst e
      rw [s.setUnit_self u r] at hx
      rw [← Option.some.inj hx]
      exact bound (h.2.2 (u, q) (Resources.mem_running.mpr hq))
    · rw [s.setUnit_other u v r e] at hx
      exact h.2.2 (v, x) (Resources.mem_running.mpr hx)
  reset s k speed p held _ := by
    refine ⟨fun c => ?_, fun j hj => ?_, fun x hx => ?_⟩
    · rw [show (s.afterReset k speed p held).channels = resetChannels from rfl, resetChannels_get]
      exact ChannelConfig.default_valid c
    · rw [State.afterReset_jobs] at hj
      cases hj
    · cases hx

/-- Settles O56: each single change of a block keeps the ranges, so every step does. -/
theorem rangesKept : Obligations.RangesKept := by
  intro s t configs snapshots clocks ht
  exact State.inRanges_kept.of_step (s := s) ⟨configs, snapshots, clocks⟩ ht

end Sys2Proof.Machine
end

section
/-! The resets: what every block holds afterwards, and that it is sound (R20, R39, R55, R60, R100, R138, R150, R164,
R172, R184). -/

namespace Sys2Proof.Machine

section
variable (k : ResetKind) (speed : LineSpeed) (p : LinkParams) (held : Bool) (s : State)

@[simp] theorem State.afterReset_res : (s.afterReset k speed p held).res = Resources.reset := rfl
@[simp] theorem State.afterReset_queue : (s.afterReset k speed p held).queue = [] := rfl
@[simp] theorem State.afterReset_seq : (s.afterReset k speed p held).seq = Sequencer.reset := rfl
@[simp] theorem State.afterReset_locks : (s.afterReset k speed p held).locks = Vector.replicate 4 none := rfl
@[simp] theorem State.afterReset_ops : (s.afterReset k speed p held).ops = OpEngine.reset := rfl
@[simp] theorem State.afterReset_delivery : (s.afterReset k speed p held).delivery = Delivery.reset p := rfl

@[simp] theorem State.afterReset_channel (c : ChanId) :
    (s.afterReset k speed p held).channels[c] = Channel.reset c := resetChannels_get c

end

@[simp] theorem Resources.reset_claim (p : PinId) : Resources.reset.claims[p] = .free := Vector.getElem_replicate _
@[simp] theorem Resources.reset_cell (c : CellId) : Resources.reset.cells[c] = none := Vector.getElem_replicate _
@[simp] theorem Resources.reset_unit (u : UnitId) : Resources.reset.units[u] = none := Vector.getElem_replicate _

/-- The channels after a reset are sound, and none is touched or suppressed (R8 to R11, R20). -/
theorem Channel.reset_sound (c : ChanId) :
    (Channel.reset c).Sound ∧ (Channel.reset c).SuppressedSound ∧
      (Channel.reset c).live.inRange (Channel.reset c).config = true := by
  refine ⟨⟨rfl, ?_, rfl⟩, fun h => absurd h (by simp [Channel.reset, LiveState.cleared]), rfl⟩
  simp [Channel.reset, LiveState.cleared, ChannelConfig.default]

/-- After a reset a HELLO record waits, in OPEN or in HOLD as the parameters say (R150, R164, R173). -/
theorem Delivery.reset_sound {p : LinkParams} (h : p.InRange) : (Delivery.reset p).Sound := by
  refine ⟨h, Nat.zero_le _, rfl, Nat.le_refl _, Nat.le_add_left 1 254, Nat.zero_le _, List.suffix_rfl, fun _ => rfl,
    fun hne => absurd rfl hne, ?_⟩
  cases hp : p.notices <;> simp [Delivery.reset, hp]

/-- Every block of the part is sound after a reset with parameters in their ranges. -/
theorem State.afterReset_sound (k : ResetKind) (speed : LineSpeed) {p : LinkParams} (hp : p.InRange) (held : Bool)
    (s : State) : (s.afterReset k speed p held).Sound where
  noticesFit := by simp [State.afterReset, NoticeQueue.reset]
  stretched c := by
    simp [State.afterReset, NoticeQueue.reset, oneResultPerStretch, resultsInStretch, Record.isStateOf,
      Record.isResultOf]
  tallyFits := ⟨Nat.zero_le _, Nat.zero_le _, Nat.zero_le _⟩
  jobsFit := ⟨Nat.zero_le _, Nat.zero_le _⟩
  passCountsFit j hj := by cases hj
  resourcesAgree := by
    refine ⟨fun p => ?_, fun c => ?_, fun x hx => by cases hx⟩
    · rw [State.afterReset_res, Resources.reset_claim]
      rfl
    · rw [State.afterReset_res, Resources.reset_cell]
      rfl
  configsValid c := by
    rw [State.afterReset_channel]
    exact ChannelConfig.default_valid c
  snapshotsValid j hj := by cases hj
  livesInRange c := by
    rw [State.afterReset_channel]
    exact (Channel.reset_sound c).2.2
  channelsSound c := by
    rw [State.afterReset_channel]
    exact (Channel.reset_sound c).1
  suppressedSound c := by
    rw [State.afterReset_channel]
    exact (Channel.reset_sound c).2.1
  locksSound g c := by
    rw [State.afterReset_channel]
    simp [Channel.reset, ChannelConfig.default, DeltaFields.default]
  sequencerSound := by
    rw [State.afterReset_seq]
    decide
  opsFit := by
    rw [State.afterReset_ops]
    decide
  currentPending o ho := by cases ho
  talliesFit o ho := by cases ho
  calibrationsSound c := by
    rw [State.afterReset_channel]
    rfl
  opJobsSound := by
    refine ⟨fun o ho => ?_, fun j hj => ?_⟩
    · cases ho
    · cases hj
  scanJobsSound := by
    refine ⟨fun j hj => ?_, List.nodup_nil, fun e he => ?_⟩
    · cases hj
    · cases he
  watchSound h := by cases h
  deliverySound := Delivery.reset_sound hp
  handlerSound := by simp [State.afterReset, Handler.reset]
  framesLegal := by
    refine ⟨fun r hr => ?_, fun n hn => ?_, rfl⟩
    · rw [List.mem_singleton.mp hr]
      exact Nat.le_add_right 7 121
    · cases hn
  lineSound := ⟨rfl, Nat.zero_le _⟩
  clocksSound x hx := by cases hx
  producersRest := rfl
  grantsRest := rfl

theorem LinkParams.default_inRange : LinkParams.default.InRange := by decide

/-- Settles O52: the state after reset is what a POWER reset with SPD low makes of it. -/
theorem soundAtReset : Obligations.SoundAtReset :=
  State.afterReset_sound .power .slow LinkParams.default_inRange false State.reset

/-- A reset command of a kind puts the part into the reset state of that kind (R150, R183). -/
theorem exec_reset {s : State} {k : ResetKind} {speed : LineSpeed} {c : Instr} (h : s.ResetBy k speed c) :
    exec c s = .next
      (s.afterReset k speed (match k with | .power | .pin => LinkParams.default | .soft => s.delivery.params)
        (match k with | .pin => false | .power | .soft => s.resetHeld)) := by
  cases k with
  | power => cases h; rfl
  | pin => cases h; rfl
  | soft =>
    obtain ⟨rfl, due⟩ := h
    show execSoftReset speed s = _
    rw [execSoftReset, if_pos due]

/-- Settles O5, block by block. -/
theorem resetsRestoreEveryBlock : Obligations.ResetsRestoreEveryBlock := by
  intro k speed c s h
  refine ⟨_, exec_reset h, ?_⟩
  refine ⟨Resources.reset_claim, Resources.reset_cell, Resources.reset_unit, rfl, rfl, fun n => ?_, fun g => ?_, rfl,
    rfl, ?_, rfl, rfl⟩
  · rw [State.afterReset_channel]
    rfl
  · exact Vector.getElem_replicate _
  · exact ⟨_, rfl, by cases k <;> rfl⟩

end Sys2Proof.Machine
end

section
/-! The taking of a request that the reply cache does not answer, and the refusals of SET_CHANNEL (R13, R14, R177 to
R180). -/

namespace Sys2Proof.Machine

/-! ### Taking a request (R177, R178) -/

section
variable {s : State} {k : RequestKind} {f : Frame} {rest : List Frame}

/-- A request that is taken new is checked, carried out in the state of its taking, answered and cached. -/
theorem State.request_new (h : s.TakesNew k f rest) (serve : List Byte → State → State × Reply) :
    s.request k serve =
      State.replied f (checked k serve f (s.beginTaking rest)).2 (checked k serve f (s.beginTaking rest)).1 := by
  obtain ⟨⟨waits, ready, room⟩, kind, new⟩ := h
  have cached : (s.beginTaking rest).handler.cached f = none := by
    rw [(s.beginTaking_fields rest).2.2.2.2.1]
    exact new
  unfold State.request State.takeRequest
  simp only [waits]
  rw [if_pos (by simp [Handler.canTake, ready, room, kind])]
  unfold State.answer
  simp only [cached]
  rfl

/-- A request that passes the generic checks is carried out by its own service (R179). -/
theorem checked_of_generic (serve : List Byte → State → State × Reply) (u : State)
    (h : k.generic f.payload = none) : checked k serve f u = serve f.payload u := by
  simp only [checked, h]

/-- A payload of the right length without unused bits passes the generic checks (R179). -/
theorem RequestKind.generic_none {p : List Byte} (length : k.lengthOk p = true) (bits : k.unusedBits p = none) :
    k.generic p = none := by
  simp [RequestKind.generic, length, bits]

end

/-! ### What the codes of SET_CHANNEL name (R188) -/

theorem modeOf_interval (n : Nat) : (modeOf n == .interval) = decide (2 ≤ n) := by
  match n with
  | 0 => rfl
  | 1 => rfl
  | n + 2 => simp [modeOf]

theorem sourceOf_isOsc (n : Nat) : (sourceOf n).isOsc = decide (n < 2) := by
  match n with
  | 0 => rfl
  | 1 => rfl
  | n + 2 => simp [sourceOf, Source.isOsc]

theorem detectorOf_delta (n : Nat) : (detectorOf n == .delta) = decide (n = 1) := by
  match n with
  | 0 => rfl
  | 1 => rfl
  | n + 2 => simp [detectorOf]

theorem groupOf_isNone (n : Nat) : (groupOf n).isNone = decide (n = 0) := by
  cases n <;> simp [groupOf]

/-- The consistency checks of SET_CHANNEL, on the fields of its payload (R14). -/
theorem consistencyChecks_configOf (p : List Byte) :
    consistencyChecks (configOf p) =
      [(4, !(decide (2 ≤ byteAt p 4) && decide (byteAt p 3 < 2))), (19, decide (fieldAt p 19 2 < fieldAt p 17 2)),
        (21, decide (fieldAt p 21 3 ≤ fieldAt p 24 3)),
        (27, decide (fieldAt p 27 3 ≤ fieldAt p 24 3 - fieldAt p 21 3)),
        (39, decide (byteAt p 39 = 0) || decide (byteAt p 15 = 1))] := by
  rw [← modeOf_interval, ← sourceOf_isOsc, ← detectorOf_delta, ← groupOf_isNone]
  rfl

theorem channelAt_of_byteAt {p : List Byte} {offset : Nat} {n : ChanId} (h : byteAt p offset = n.val) :
    channelAt p offset = n := by
  unfold channelAt finOr
  rw [dif_pos (h ▸ n.isLt)]
  exact Fin.ext h

/-! ### The refusals of SET_CHANNEL (R13) -/

/-- Of a channel that exists and is not calibrating, SET_CHANNEL refuses the first field outside its range, and then the
first inconsistency. -/
theorem State.refuseSetChannel_idle {s : State} {p : List Byte} {n : ChanId} (hn : byteAt p 0 = n.val)
    (idle : s.channels[n].live.state ≠ .calibrating) :
    s.refuseSetChannel p =
      match setChannelFields.find? fun x => !x.holds p with
      | some x => some (Refused.badValue x.offset)
      | none => (firstFailing (consistencyChecks (configOf p))).map Refused.badValue := by
  have known : ¬ 23 < byteAt p 0 := by omega
  obtain rfl := channelAt_of_byteAt hn
  unfold State.refuseSetChannel
  rw [if_neg known, if_neg idle, rangeChecks_first]
  cases setChannelFields.find? fun x => !x.holds p <;> rfl

/-- A SET_CHANNEL that is refused changes nothing but the reply (R13, R180). -/
theorem exec_setChannel_refused {s : State} {f : Frame} {rest : List Frame} (h : s.TakesNew .setChannel f rest)
    (length : f.payload.length = 44) {r : Refused} (hr : s.refuseSetChannel f.payload = some r) :
    exec .setChannel s = .next ((s.beginTaking rest).replied f r.reply) := by
  have generic : RequestKind.setChannel.generic f.payload = none :=
    RequestKind.generic_none (by simp [RequestKind.lengthOk, length]) rfl
  have same : (s.beginTaking rest).refuseSetChannel f.payload = some r := by
    unfold State.refuseSetChannel at hr ⊢
    rwa [(s.beginTaking_fields rest).1]
  show Host.Outcome.next (s.request .setChannel serveSetChannel) = _
  rw [State.request_new h, checked_of_generic _ _ generic]
  simp only [serveSetChannel, guarded, same]

/-- Settles O24: each refusal is the first of the checks that fails. -/
theorem setChannelRefusals : Obligations.SetChannelRefusals := by
  intro f rest s h length u p refused
  refine ⟨fun above => ?_, fun n hn => ?_⟩
  · refine exec_setChannel_refused h length (r := Refused.badValue 0) ?_
    rw [fieldAt_one] at above
    exact if_pos above
  rw [fieldAt_one] at hn
  refine ⟨fun calibrating => ?_, fun idle => ⟨fun pre x post split before fails => ?_, fun holds => ?_⟩⟩
  · refine exec_setChannel_refused h length (r := Refused.wrongState) ?_
    have known : ¬ 23 < byteAt p 0 := by omega
    obtain rfl := channelAt_of_byteAt hn
    rw [State.refuseSetChannel, if_neg known, if_pos calibrating]
  · refine exec_setChannel_refused h length (r := Refused.badValue x.offset) ?_
    have first : (setChannelFields.find? fun x => !x.holds p) = some x := by
      rw [List.find?_eq_some_iff_append]
      refine ⟨by simp [fails], pre, post, split, fun y hy => by simp [before y hy]⟩
    rw [State.refuseSetChannel_idle hn idle, first]
  · have refuse (offset : Nat) (first : firstFailing (consistencyChecks (configOf p)) = some offset) :
        exec .setChannel s = .next (refused offset) := by
      refine exec_setChannel_refused h length (r := Refused.badValue offset) ?_
      have inRange : (setChannelFields.find? fun x => !x.holds p) = none := by
        rw [List.find?_eq_none]
        exact fun x hx => by simp [holds x hx]
      rw [State.refuseSetChannel_idle hn idle, inRange, first]
      rfl
    have mode : byteAt p 4 ≤ 2 := by simpa [FieldRange.holds, fieldAt_one] using holds ⟨4, 1, 0, 2⟩ (by decide)
    have source : byteAt p 3 ≤ 2 := by simpa [FieldRange.holds, fieldAt_one] using holds ⟨3, 1, 0, 2⟩ (by decide)
    rw [consistencyChecks_configOf] at refuse
    simp only [fieldAt_one, firstFailing] at refuse ⊢
    have sourced (e : byteAt p 4 = 2 → byteAt p 3 = 2) :
        (!(decide (2 ≤ byteAt p 4) && decide (byteAt p 3 < 2))) = true := by simp; omega
    refine ⟨fun interval osc => refuse 4 ?_, fun e on => refuse 19 ?_, fun e on low => refuse 21 ?_,
      fun e on low hyst => refuse 27 ?_, fun e on low hyst group detector => refuse 39 ?_⟩
    · rw [if_neg]
      simp only [interval, Bool.not_eq_true', Bool.and_eq_false_iff, decide_eq_false_iff_not]
      omega
    · rw [if_pos (sourced e), if_neg (by simpa using on)]
    · rw [if_pos (sourced e), if_pos (by simpa using on), if_neg (by simpa using low)]
    · rw [if_pos (sourced e), if_pos (by simpa using on), if_pos (by simpa using low), if_neg (by simpa using hyst)]
    · rw [if_pos (sourced e), if_pos (by simpa using on), if_pos (by simpa using low), if_pos (by simpa using hyst),
        if_neg (by simp [group, detector])]

end Sys2Proof.Machine
end

section
/-! The fields of payloads: a payload that spells fields one after another has each field's value at its offset (R185).
The payload of SET_CHANNEL and the replies of GET_CHANNEL and GET_SCAN are such payloads (R186, R187). -/

namespace Sys2Proof.Machine

/-! ### Bytes and the numbers they spell (R185) -/

@[simp] theorem bytesLE_length (k n : Nat) : (bytesLE k n).length = k := by
  induction k generalizing n with
  | zero => rfl
  | succ k ih => simp [bytesLE, ih]

theorem numberLE_bytesLE (k n : Nat) : numberLE (bytesLE k n) = n % 256 ^ k := by
  induction k generalizing n with
  | zero => simp [bytesLE, numberLE, Nat.mod_one]
  | succ k ih =>
    have split : n % 256 ^ (k + 1) = n % 256 + 256 * (n / 256 % 256 ^ k) := by rw [Nat.pow_succ', Nat.mod_mul]
    rw [bytesLE, numberLE, ih, split]
    rfl

theorem numberLE_injective {p q : List Byte} (length : p.length = q.length) (h : numberLE p = numberLE q) : p = q := by
  induction p generalizing q with
  | nil => exact (List.length_eq_zero_iff.mp length.symm).symm
  | cons b p ih =>
    cases q with
    | nil => cases length
    | cons c q =>
      have hb := b.isLt
      have hc := c.isLt
      simp only [numberLE] at h
      have low : b.toNat = c.toNat := by omega
      have high : numberLE p = numberLE q := by omega
      rw [BitVec.eq_of_toNat_eq low, ih (Nat.succ.inj length) high]

/-! ### Fields one after another -/

/-- A field of a payload and the value it spells. -/
structure PayloadField where
  offset : Nat
  size : Nat
  value : Nat

/-- The bytes of a field, low byte first. -/
def PayloadField.bytes (x : PayloadField) : List Byte := bytesLE x.size x.value

/-- Whether fields stand one after another from an offset on. -/
def Tiles : Nat → List PayloadField → Prop
  | _, [] => True
  | a, x :: xs => x.offset = a ∧ Tiles (a + x.size) xs

/-- The bytes of fields that stand one after another. -/
def fieldBytes (xs : List PayloadField) : List Byte := xs.flatMap PayloadField.bytes

/-- Each field of a payload stands at its offset. -/
theorem fieldAt_fieldBytes {pre : List Byte} {xs : List PayloadField} (post : List Byte) (tiles : Tiles pre.length xs)
    {x : PayloadField} (hx : x ∈ xs) :
    fieldAt (pre ++ (fieldBytes xs ++ post)) x.offset x.size = x.value % 256 ^ x.size := by
  induction xs generalizing pre with
  | nil => cases hx
  | cons y ys ih =>
    obtain ⟨start, tiles⟩ := tiles
    have shift : pre ++ (fieldBytes (y :: ys) ++ post) = (pre ++ y.bytes) ++ (fieldBytes ys ++ post) := by
      simp [fieldBytes]
    rcases List.mem_cons.mp hx with rfl | hx
    · rw [shift, List.append_assoc, fieldAt, start, List.drop_left]
      rw [List.take_left' (show x.bytes.length = x.size from bytesLE_length _ _)]
      exact numberLE_bytesLE _ _
    · rw [shift]
      exact ih (by simpa [PayloadField.bytes] using tiles) hx

theorem fieldBytes_length (xs : List PayloadField) : (fieldBytes xs).length = (xs.map PayloadField.size).sum := by
  simp [fieldBytes, List.length_flatMap, PayloadField.bytes]

/-- A payload whose fields have the values of another payload of its length is that payload. -/
theorem eq_of_fieldAt {p q : List Byte} {a : Nat} {xs : List PayloadField} (tiles : Tiles a xs)
    (hp : p.length = a + (xs.map PayloadField.size).sum) (hq : q.length = a + (xs.map PayloadField.size).sum)
    (same : ∀ x ∈ xs, fieldAt p x.offset x.size = fieldAt q x.offset x.size) : p.drop a = q.drop a := by
  induction xs generalizing a with
  | nil =>
    simp only [List.map_nil, List.sum_nil, Nat.add_zero] at hp hq
    rw [List.drop_of_length_le hp.le, List.drop_of_length_le hq.le]
  | cons x xs ih =>
    obtain ⟨rfl, tiles⟩ := tiles
    simp only [List.map_cons, List.sum_cons, ← Nat.add_assoc] at hp hq
    have tail := ih tiles hp hq fun y hy => same y (List.mem_cons_of_mem _ hy)
    have head : (p.drop x.offset).take x.size = (q.drop x.offset).take x.size :=
      numberLE_injective (by simp [hp, hq]) (same x List.mem_cons_self)
    rw [← List.take_append_drop x.size (p.drop x.offset), ← List.take_append_drop x.size (q.drop x.offset),
      List.drop_drop, List.drop_drop, head, tail]

/-! ### The payload of SET_CHANNEL (R186) -/

/-- The fields of a configuration in the SET_CHANNEL payload (R186, R188). -/
def configFields (n : ChanId) (c : ChannelConfig) : List PayloadField :=
  [⟨0, 1, n.val⟩, ⟨1, 1, c.enable.toNat⟩, ⟨2, 1, c.measuring.pin.val⟩, ⟨3, 1, c.measuring.source.code⟩,
    ⟨4, 1, c.measuring.mode.code⟩, ⟨5, 1, c.measuring.prescale⟩, ⟨6, 2, c.measuring.gateLength⟩,
    ⟨8, 2, c.measuring.cycleCount⟩, ⟨10, 1, c.measuring.edgePair.code⟩, ⟨11, 2, c.measuring.timeout⟩,
    ⟨13, 1, c.measuring.settleCycles⟩, ⟨14, 1, c.measuring.driveLevel.val⟩, ⟨15, 1, c.detector.code⟩,
    ⟨16, 1, c.delta.direction.code⟩, ⟨17, 2, c.delta.onThreshold⟩, ⟨19, 2, c.delta.offThreshold⟩,
    ⟨21, 3, c.window.lowLimit⟩, ⟨24, 3, c.window.highLimit⟩, ⟨27, 3, c.window.hysteresis⟩, ⟨30, 1, c.debounceOn⟩,
    ⟨31, 1, c.debounceOff⟩, ⟨32, 1, c.delta.settleCount⟩, ⟨33, 1, c.delta.driftStep⟩, ⟨34, 1, c.delta.driftInterval⟩,
    ⟨35, 1, c.delta.reverseLimit⟩, ⟨36, 2, c.delta.holdLimit⟩, ⟨38, 1, c.faultLimit⟩,
    ⟨39, 1, groupNumber c.delta.group⟩, ⟨40, 1, c.events.toNat⟩, ⟨41, 1, c.resultMode.code⟩, ⟨42, 2, c.changeStep⟩]

theorem configBytes_eq (n : ChanId) (c : ChannelConfig) : configBytes n c = fieldBytes (configFields n c) := by
  simp [configBytes, configFields, fieldBytes, PayloadField.bytes, bytesLE, codeByte]

theorem configFields_tiles (n : ChanId) (c : ChannelConfig) : Tiles 0 (configFields n c) := by
  simp [Tiles, configFields]

theorem configFields_sizes (n : ChanId) (c : ChannelConfig) :
    ((configFields n c).map PayloadField.size).sum = 44 := by
  simp [configFields]

@[simp] theorem configBytes_length (n : ChanId) (c : ChannelConfig) : (configBytes n c).length = 44 := by
  rw [configBytes_eq, fieldBytes_length, configFields_sizes]

/-- Each field of the payload of a configuration, at its offset. -/
theorem fieldAt_configBytes (n : ChanId) (c : ChannelConfig) {x : PayloadField} (hx : x ∈ configFields n c) :
    fieldAt (configBytes n c) x.offset x.size = x.value % 256 ^ x.size := by
  have := fieldAt_fieldBytes (pre := []) [] (configFields_tiles n c) hx
  rwa [List.append_nil, List.nil_append, ← configBytes_eq] at this

theorem Source.code_lt (x : Source) : x.code < 3 := by cases x <;> decide
theorem Mode.code_lt (x : Mode) : x.code < 3 := by cases x <;> decide
theorem EdgePair.code_lt (x : EdgePair) : x.code < 4 := by cases x <;> decide
theorem Detector.code_lt (x : Detector) : x.code < 3 := by cases x <;> decide
theorem Direction.code_lt (x : Direction) : x.code < 2 := by cases x <;> decide
theorem ResultMode.code_lt (x : ResultMode) : x.code < 3 := by cases x <;> decide
theorem groupNumber_lt (g : Option LockId) : groupNumber g < 5 := by
  cases g with
  | none => decide
  | some g => exact Nat.succ_lt_succ g.isLt

/-- Every field of a valid configuration fits its bytes. -/
theorem configFields_fit (n : ChanId) {c : ChannelConfig} (h : c.valid = true) :
    ∀ x ∈ configFields n c, x.value < 256 ^ x.size := by
  have enable := c.enable.toNat_lt
  have events := c.events.toNat_lt
  have source := c.measuring.source.code_lt
  have mode := c.measuring.mode.code_lt
  have pair := c.measuring.edgePair.code_lt
  have detector := c.detector.code_lt
  have direction := c.delta.direction.code_lt
  have result := c.resultMode.code_lt
  have group := groupNumber_lt c.delta.group
  rw [ChannelConfig.valid_iff, Measuring.valid_iff] at h
  simp only [configFields, List.forall_mem_cons, List.not_mem_nil, false_imp_iff, implies_true, and_true]
  omega

/-- Each field of a valid configuration is read back from its payload. -/
theorem fieldAt_configBytes_valid (n : ChanId) {c : ChannelConfig} (h : c.valid = true) :
    ∀ x ∈ configFields n c, fieldAt (configBytes n c) x.offset x.size = x.value := by
  intro x hx
  rw [fieldAt_configBytes n c hx, Nat.mod_eq_of_lt (configFields_fit n h x hx)]

/-! ### Codes and the names they spell (R188) -/

theorem sourceOf_code (x : Source) : sourceOf x.code = x := by cases x <;> rfl
theorem modeOf_code (x : Mode) : modeOf x.code = x := by cases x <;> rfl
theorem edgePairOf_code (x : EdgePair) : edgePairOf x.code = x := by cases x <;> rfl
theorem detectorOf_code (x : Detector) : detectorOf x.code = x := by cases x <;> rfl
theorem directionOf_code (x : Direction) : directionOf x.code = x := by cases x <;> rfl
theorem resultModeOf_code (x : ResultMode) : resultModeOf x.code = x := by cases x <;> rfl

theorem finOr_val {n : Nat} [NeZero n] (x : Fin n) : finOr n x.val = x := by simp [finOr]

theorem groupOf_number (g : Option LockId) : groupOf (groupNumber g) = g := by
  cases g with
  | none => rfl
  | some g => simp [groupNumber, groupOf, finOr_val]

theorem toNat_beq_one (b : Bool) : (b.toNat == 1) = b := by cases b <;> rfl

theorem code_sourceOf {n : Nat} (h : n ≤ 2) : (sourceOf n).code = n := by interval_cases n <;> rfl
theorem code_modeOf {n : Nat} (h : n ≤ 2) : (modeOf n).code = n := by interval_cases n <;> rfl
theorem code_edgePairOf {n : Nat} (h : n ≤ 3) : (edgePairOf n).code = n := by interval_cases n <;> rfl
theorem code_detectorOf {n : Nat} (h : n ≤ 2) : (detectorOf n).code = n := by interval_cases n <;> rfl
theorem code_directionOf {n : Nat} (h : n ≤ 1) : (directionOf n).code = n := by interval_cases n <;> rfl
theorem code_resultModeOf {n : Nat} (h : n ≤ 2) : (resultModeOf n).code = n := by interval_cases n <;> rfl
theorem number_groupOf {n : Nat} (h : n ≤ 4) : groupNumber (groupOf n) = n := by interval_cases n <;> rfl
theorem beq_one_toNat {n : Nat} (h : n ≤ 1) : (n == 1).toNat = n := by interval_cases n <;> rfl

theorem val_finOr {n k : Nat} [NeZero n] (h : k < n) : (finOr n k).val = k := by simp [finOr, h]

/-! ### Round trips (R13, R14, R186) -/

/-- A valid configuration is read back whole from its payload. -/
theorem configOf_configBytes (n : ChanId) {c : ChannelConfig} (h : c.valid = true) :
    channelAt (configBytes n c) 0 = n ∧ configOf (configBytes n c) = c := by
  have fields := fieldAt_configBytes_valid n h
  simp only [configFields, List.forall_mem_cons, fieldAt_one] at fields
  constructor
  · exact channelAt_of_byteAt fields.1
  · simp only [configOf, fields, sourceOf_code, modeOf_code, edgePairOf_code, detectorOf_code, directionOf_code,
      resultModeOf_code, groupOf_number, finOr_val, toNat_beq_one]

/-- A valid configuration is consistent (R14). -/
theorem ChannelConfig.consistent_of_valid {c : ChannelConfig} (h : c.valid = true) :
    firstFailing (consistencyChecks c) = none := by
  rw [ChannelConfig.valid_iff, Measuring.valid_iff] at h
  rw [consistencyChecks_pass]
  simp only [h, true_and]

/-- The payload of a valid configuration passes the checks. -/
theorem refuseSetChannel_configBytes (n : ChanId) {c : ChannelConfig} (h : c.valid = true) (s : State)
    (idle : s.channels[n].live.state ≠ .calibrating) : s.refuseSetChannel (configBytes n c) = none := by
  have fields := fieldAt_configBytes_valid n h
  have fits := configFields_fit n h
  obtain ⟨-, read⟩ := configOf_configBytes n h
  have number : byteAt (configBytes n c) 0 = n.val := by
    rw [← fieldAt_one]
    exact fields ⟨0, 1, n.val⟩ (by simp [configFields])
  have source := c.measuring.source.code_lt
  have mode := c.measuring.mode.code_lt
  have pair := c.measuring.edgePair.code_lt
  have detector := c.detector.code_lt
  have direction := c.delta.direction.code_lt
  have result := c.resultMode.code_lt
  have group := groupNumber_lt c.delta.group
  have enable := c.enable.toNat_lt
  have events := c.events.toNat_lt
  have range : (setChannelFields.find? fun x => !x.holds (configBytes n c)) = none := by
    simp only [configFields, List.forall_mem_cons] at fields
    rw [ChannelConfig.valid_iff, Measuring.valid_iff] at h
    rw [List.find?_eq_none]
    simp only [setChannelFields, List.forall_mem_cons, FieldRange.holds, fields, Bool.not_eq_true, Bool.not_eq_false',
      Bool.and_eq_true, decide_eq_true_eq, List.not_mem_nil, false_imp_iff, implies_true, and_true]
    omega
  rw [State.refuseSetChannel_idle number idle, range, read, ChannelConfig.consistent_of_valid h]
  rfl

/-- A payload that passes the checks is the spelling of what is read from it. -/
theorem configBytes_configOf {p : List Byte} (length : p.length = 44) {s : State} (h : s.refuseSetChannel p = none) :
    configBytes (channelAt p 0) (configOf p) = p := by
  obtain ⟨known, -, range, -⟩ := State.refuseSetChannel_none h
  rw [rangeChecks_first, Option.map_eq_none_iff, List.find?_eq_none] at range
  have sizes := configFields_sizes (channelAt p 0) (configOf p)
  have own := configBytes_length (channelAt p 0) (configOf p)
  suffices whole : (configBytes (channelAt p 0) (configOf p)).drop 0 = p.drop 0 from whole
  refine eq_of_fieldAt (configFields_tiles (channelAt p 0) (configOf p)) (by rw [sizes]; exact own)
    (by rw [sizes]; exact length) fun x hx => ?_
  rw [fieldAt_configBytes _ _ hx]
  revert x
  have short (offset size : Nat) : fieldAt p offset size % 256 ^ size = fieldAt p offset size :=
    Nat.mod_eq_of_lt (fieldAt_lt p offset size)
  simp only [setChannelFields, List.forall_mem_cons, FieldRange.holds, fieldAt_one, Bool.not_eq_true,
    Bool.not_eq_false', Bool.and_eq_true, decide_eq_true_eq] at range
  simp only [configFields, List.forall_mem_cons, configOf, channelAt, fieldAt_one]
  have one (offset : Nat) : byteAt p offset % 256 ^ 1 = byteAt p offset := by
    rw [← fieldAt_one]
    exact short offset 1
  have enable := beq_one_toNat (n := byteAt p 1) (by omega)
  have events := beq_one_toNat (n := byteAt p 40) (by omega)
  simp only [short, one, enable, events, val_finOr (show byteAt p 0 < 24 by omega),
    val_finOr (show byteAt p 2 < 24 by omega), val_finOr (show byteAt p 14 < 4 by omega),
    code_sourceOf (n := byteAt p 3) (by omega), code_modeOf (n := byteAt p 4) (by omega),
    code_edgePairOf (n := byteAt p 10) (by omega), code_detectorOf (n := byteAt p 15) (by omega),
    code_directionOf (n := byteAt p 16) (by omega), code_resultModeOf (n := byteAt p 41) (by omega),
    number_groupOf (n := byteAt p 39) (by omega), List.not_mem_nil, false_imp_iff, implies_true, and_true]

/-- Settles O23: the payload is the fields one after another, and each field is read back where it was written. -/
theorem configPayloadRoundTrip : Obligations.ConfigPayloadRoundTrip := by
  refine ⟨fun n c h => ?_, fun p s length h => ?_, fun n c h => ?_⟩
  · obtain ⟨channel, read⟩ := configOf_configBytes n h
    exact ⟨configBytes_length n c, channel, read, fun s idle => refuseSetChannel_configBytes n h s idle⟩
  · obtain ⟨-, -, range, consistent⟩ := State.refuseSetChannel_none h
    exact ⟨configBytes_configOf length h, configOf_valid range consistent⟩
  · have fields := fieldAt_configBytes_valid n h
    simp only [configFields, List.forall_mem_cons] at fields
    simp only [fields, true_and, and_true]
    refine ⟨?_, ?_, ?_, ?_, ?_, ?_, ?_⟩
    · cases c.measuring.source <;> rfl
    · cases c.measuring.mode <;> rfl
    · cases c.measuring.edgePair <;> rfl
    · cases c.detector <;> rfl
    · cases c.delta.direction <;> rfl
    · cases c.delta.group <;> rfl
    · cases c.resultMode <;> rfl

end Sys2Proof.Machine
end

section
/-! The requests that read: their replies, and the layouts of the GET_CHANNEL and GET_SCAN replies (R19, R59, R181,
R182, R185, R187). -/

namespace Sys2Proof.Machine

/-! ### The commands -/

/-- A request that only reads is answered with what it reads from the state of its taking, and nothing else changes. -/
theorem State.request_reads {s : State} {k : RequestKind} {f : Frame} {rest : List Frame} (h : s.TakesNew k f rest)
    (length : k.lengthOk f.payload = true) (bits : k.unusedBits f.payload = none)
    {serve : List Byte → State → State × Reply} {r : Reply}
    (reads : serve f.payload (s.beginTaking rest) = (s.beginTaking rest, r)) :
    s.request k serve = (s.beginTaking rest).replied f r := by
  rw [State.request_new h, checked_of_generic _ _ (RequestKind.generic_none length bits), reads]

theorem byteAt_singleton (b : Byte) : byteAt [b] 0 = b.toNat := rfl

/-- GET_CHANNEL reads the channel that its payload names (R19). -/
theorem serveGetChannel_known (n : ChanId) (u : State) :
    serveGetChannel [BitVec.ofNat 8 n.val] u =
      (u, { status := .ok, rest := configBytes n u.channels[n].config ++ liveBytes u.channels[n].live }) := by
  have number : byteAt [BitVec.ofNat 8 n.val] 0 = n.val := by
    rw [byteAt_singleton, BitVec.toNat_ofNat, Nat.mod_eq_of_lt (n.isLt.trans (by decide))]
  have channel := channelAt_of_byteAt number
  have known : ¬ 23 < byteAt [BitVec.ofNat 8 n.val] 0 := by omega
  generalize [BitVec.ofNat 8 n.val] = p at channel known
  subst channel
  rw [serveGetChannel, if_neg known]
  rfl

/-- GET_CHANNEL refuses a channel above 23 (R19). -/
theorem serveGetChannel_above {b : Byte} (h : 24 ≤ b.toNat) (u : State) :
    serveGetChannel [b] u = (u, { status := .badValue, rest := [0#8] }) := if_pos h

/-! ### The GET_CHANNEL reply (R187) -/

/-- The number whose four bytes spell a signed value in two's complement (R185). -/
def twosComplement (v : Int) : Nat := (BitVec.ofInt 32 v).toNat

theorem signedLE_eq (v : Int) : signedLE v = bytesLE 4 (twosComplement v) := rfl

theorem twosComplement_lt (v : Int) : twosComplement v < 256 ^ 4 := (BitVec.ofInt 32 v).isLt

/-- A signed value of at most 24 bits is read back from its four bytes. -/
theorem toInt_twosComplement {v : Int} (h : v.natAbs ≤ Config.rawMax) :
    (BitVec.ofNat 32 (twosComplement v)).toInt = v := by
  rw [twosComplement, BitVec.ofNat_toNat, BitVec.setWidth_eq, BitVec.toInt_ofInt]
  simp only [Config.rawMax] at h
  exact Int.bmod_eq_of_le (by omega) (by omega)

/-- The presence flags of a live state as a number (R187). -/
def LiveState.flags (l : LiveState) : Nat :=
  l.baseline.isSome.toNat + 2 * l.lastRaw.isSome.toNat + 4 * l.lastSignal.isSome.toNat +
    8 * l.candidate.isSome.toNat + 16 * l.lastReported.isSome.toNat

/-- The code of a candidate zone, 0 for none (R188). -/
def LiveState.candidateCode (l : LiveState) : Nat :=
  match l.candidate with
  | none => 0
  | some .inside => 9
  | some .above => 10
  | some .below => 11

/-- The fields of a live state in the GET_CHANNEL reply (R187). -/
def liveFields (l : LiveState) : List PayloadField :=
  [⟨45, 1, l.state.code⟩, ⟨46, 1, l.flags⟩, ⟨47, 3, l.baseline.getD 0⟩, ⟨50, 4, l.settleSum⟩,
    ⟨54, 1, l.settleSamples⟩, ⟨55, 3, l.lastRaw.getD 0⟩, ⟨58, 4, twosComplement (l.lastSignal.getD 0)⟩,
    ⟨62, 1, l.debounce⟩, ⟨63, 1, l.candidateCode⟩, ⟨64, 1, l.suppressed.toNat⟩, ⟨65, 2, l.activeResults⟩,
    ⟨67, 1, l.driftCount⟩, ⟨68, 1, l.reverseCount⟩, ⟨69, 1, l.faultCount⟩,
    ⟨70, 4, twosComplement (l.lastReported.getD 0)⟩]

theorem liveFields_tiles (l : LiveState) : Tiles 45 (liveFields l) := by
  simp [Tiles, liveFields]

theorem LiveState.flags_eq (l : LiveState) :
    flagsByte [l.baseline.isSome, l.lastRaw.isSome, l.lastSignal.isSome, l.candidate.isSome, l.lastReported.isSome]
      = codeByte l.flags := by
  unfold flagsByte LiveState.flags
  congr 1
  simp only [List.foldr]
  omega

theorem LiveState.candidateCode_eq (l : LiveState) :
    (l.candidate.map fun z => z.state.code).getD 0 = l.candidateCode := by
  unfold LiveState.candidateCode
  cases l.candidate with
  | none => rfl
  | some z => cases z <;> rfl

theorem liveBytes_eq (l : LiveState) : liveBytes l = fieldBytes (liveFields l) := by
  unfold liveBytes
  rw [l.flags_eq, l.candidateCode_eq]
  simp [liveFields, fieldBytes, PayloadField.bytes, bytesLE, codeByte, optionalLE, optionalSignedLE, signedLE_eq]

theorem ChanState.code_lt (st : ChanState) : st.code < 13 := by cases st <;> decide

/-- The live state of a channel in its ranges, as inequalities (R9 to R11). -/
theorem LiveState.inRange_iff (cfg : ChannelConfig) (l : LiveState) :
    l.inRange cfg = true ↔
      (∀ b ∈ l.baseline, b ≤ Config.rawMax) ∧ (∀ r ∈ l.lastRaw, r ≤ Config.rawMax) ∧
      (∀ v ∈ l.lastSignal, v.natAbs ≤ Config.rawMax) ∧ (∀ v ∈ l.lastReported, v.natAbs ≤ Config.rawMax) ∧
      l.settleSamples < cfg.delta.settleCount ∧ l.settleSum ≤ l.settleSamples * Config.rawMax ∧
      l.debounce ≤ 15 ∧ l.activeResults ≤ Config.countMax ∧ l.driftCount < cfg.delta.driftInterval ∧
      l.reverseCount < cfg.delta.reverseLimit ∧ l.faultCount < cfg.faultLimit := by
  simp only [LiveState.inRange, Bool.and_eq_true, Option.all_eq_true, decide_eq_true_eq, and_assoc, Option.mem_def]

theorem getD_zero_le {v : Option Nat} {n : Nat} (h : ∀ x ∈ v, x ≤ n) : v.getD 0 ≤ n := by
  cases v with
  | none => exact Nat.zero_le _
  | some x => exact h x rfl

theorem natAbs_getD_zero_le {v : Option Int} {n : Nat} (h : ∀ x ∈ v, x.natAbs ≤ n) : (v.getD 0).natAbs ≤ n := by
  cases v with
  | none => exact Nat.zero_le _
  | some x => exact h x rfl

/-- Every field of a live state in its ranges fits its bytes. -/
theorem liveFields_fit {cfg : ChannelConfig} {l : LiveState} (hc : cfg.valid = true) (hl : l.inRange cfg = true) :
    ∀ x ∈ liveFields l, x.value < 256 ^ x.size := by
  rw [ChannelConfig.valid_iff] at hc
  rw [LiveState.inRange_iff] at hl
  obtain ⟨baseline, raw, -, -, samples, sum, debounce, active, drift, reverse, fault⟩ := hl
  have state := l.state.code_lt
  have flags : l.flags < 32 := by
    have := l.baseline.isSome.toNat_lt
    have := l.lastRaw.isSome.toNat_lt
    have := l.lastSignal.isSome.toNat_lt
    have := l.candidate.isSome.toNat_lt
    have := l.lastReported.isSome.toNat_lt
    unfold LiveState.flags
    omega
  have candidate : l.candidateCode < 12 := by
    unfold LiveState.candidateCode
    split <;> decide
  have suppressed := l.suppressed.toNat_lt
  have signal := twosComplement_lt (l.lastSignal.getD 0)
  have reported := twosComplement_lt (l.lastReported.getD 0)
  have baseline := getD_zero_le baseline
  have raw := getD_zero_le raw
  have sum : l.settleSum ≤ 63 * Config.rawMax := sum.trans (Nat.mul_le_mul_right _ (by omega))
  simp only [Config.rawMax, Config.countMax] at baseline raw sum active
  simp only [liveFields, List.forall_mem_cons, List.not_mem_nil, false_imp_iff, implies_true, and_true]
  omega

/-- The GET_CHANNEL reply after its status byte, field by field (R187). -/
theorem fieldAt_getChannel {s : State} (h : s.Sound) (n : ChanId) (st : Byte) :
    ∀ x ∈ liveFields s.channels[n].live,
      fieldAt (st :: (configBytes n s.channels[n].config ++ liveBytes s.channels[n].live)) x.offset x.size =
        x.value := by
  intro x hx
  have read := fieldAt_fieldBytes (pre := st :: configBytes n s.channels[n].config) []
    (by simpa using liveFields_tiles s.channels[n].live) hx
  rw [List.append_nil, ← liveBytes_eq] at read
  rw [← List.cons_append, read,
    Nat.mod_eq_of_lt (liveFields_fit (h.configsValid n) (h.livesInRange n) x hx)]

/-! ### The GET_SCAN reply (R187) -/

/-- The fields of scan entries, from an offset on (R186). -/
def entryFields : Nat → List ScanEntry → List PayloadField
  | _, [] => []
  | a, e :: es =>
    ⟨a, 1, e.channel.val⟩ :: ⟨a + 1, 1, e.divider⟩ :: ⟨a + 2, 1, e.watch.toNat⟩ :: entryFields (a + 3) es

/-- The fields of the GET_SCAN reply after its status byte (R187). -/
def scanFields (q : Sequencer) : List PayloadField :=
  ⟨1, 1, q.list.length⟩ :: (entryFields 2 q.list ++
    [⟨2 + 3 * q.list.length, 2, q.runPeriod⟩, ⟨4 + 3 * q.list.length, 2, q.watchPeriod⟩])

theorem entryFields_tiles (a : Nat) (es : List ScanEntry) (xs : List PayloadField)
    (h : Tiles (a + 3 * es.length) xs) : Tiles a (entryFields a es ++ xs) := by
  induction es generalizing a with
  | nil => exact h
  | cons e es ih =>
    refine ⟨rfl, rfl, rfl, ih (a + 3) ?_⟩
    rwa [show a + 3 + 3 * es.length = a + 3 * (e :: es).length by rw [List.length_cons]; omega]

theorem scanFields_tiles (q : Sequencer) : Tiles 1 (scanFields q) := by
  refine ⟨rfl, entryFields_tiles 2 q.list _ ⟨rfl, ?_, trivial⟩⟩
  show 4 + 3 * q.list.length = 2 + 3 * q.list.length + 2
  omega

theorem fieldBytes_entryFields (a : Nat) (es : List ScanEntry) :
    fieldBytes (entryFields a es) = (es.map ScanEntry.bytes).flatten := by
  induction es generalizing a with
  | nil => rfl
  | cons e es ih =>
    have tail := ih (a + 3)
    simp only [fieldBytes] at tail
    simp [entryFields, fieldBytes, tail, ScanEntry.bytes, PayloadField.bytes, bytesLE, codeByte, flagsByte]

theorem scanBytes_eq (q : Sequencer) : scanBytes q = fieldBytes (scanFields q) := by
  have entries := fieldBytes_entryFields 2 q.list
  simp only [fieldBytes] at entries
  simp [scanBytes, scanFields, fieldBytes, entries, PayloadField.bytes, bytesLE, codeByte]

/-- The three fields of the entry at an index stand at its place. -/
theorem mem_entryFields {a i : Nat} {es : List ScanEntry} {e : ScanEntry} (h : es[i]? = some e) :
    ⟨a + 3 * i, 1, e.channel.val⟩ ∈ entryFields a es ∧ ⟨a + 1 + 3 * i, 1, e.divider⟩ ∈ entryFields a es ∧
      ⟨a + 2 + 3 * i, 1, e.watch.toNat⟩ ∈ entryFields a es := by
  induction es generalizing a i with
  | nil => cases h
  | cons x es ih =>
    cases i with
    | zero =>
      cases h
      simp [entryFields]
    | succ i =>
      obtain ⟨channel, divider, watch⟩ := ih (a := a + 3) (i := i) h
      rw [show a + 3 * (i + 1) = a + 3 + 3 * i by omega, show a + 1 + 3 * (i + 1) = a + 3 + 1 + 3 * i by omega,
        show a + 2 + 3 * (i + 1) = a + 3 + 2 + 3 * i by omega]
      simp only [entryFields, List.mem_cons]
      exact ⟨.inr (.inr (.inr channel)), .inr (.inr (.inr divider)), .inr (.inr (.inr watch))⟩

theorem entryFields_sizes (a : Nat) (es : List ScanEntry) :
    ((entryFields a es).map PayloadField.size).sum = 3 * es.length := by
  induction es generalizing a with
  | nil => rfl
  | cons e es ih =>
    simp only [entryFields, List.map_cons, List.sum_cons, ih, List.length_cons]
    omega

/-- The GET_SCAN reply after its status byte, field by field (R187). -/
theorem fieldAt_getScan (q : Sequencer) (st : Byte) {x : PayloadField} (hx : x ∈ scanFields q) :
    fieldAt (st :: scanBytes q) x.offset x.size = x.value % 256 ^ x.size := by
  have read := fieldAt_fieldBytes (pre := [st]) [] (scanFields_tiles q) hx
  rwa [List.append_nil, ← scanBytes_eq] at read

theorem scanBytes_length (q : Sequencer) : (scanBytes q).length = 5 + 3 * q.list.length := by
  rw [scanBytes_eq, fieldBytes_length]
  simp only [scanFields, List.map_cons, List.map_append, List.sum_cons, List.sum_append, entryFields_sizes,
    List.map_nil, List.sum_nil]
  omega

/-- Settles O19: each reading request replies from the state of its taking, and the replies are fields one after
another. -/
theorem readRequestsOnlyReply : Obligations.ReadRequestsOnlyReply := by
  refine ⟨fun f rest s => ?_, fun s n h => ?_, fun q => ?_⟩
  · refine ⟨fun h short => ?_, fun h empty => ?_, fun n h hp => ?_, fun b h hp above => ?_, fun h empty => ?_⟩
    · exact congrArg Host.Outcome.next (State.request_reads h (by simp [RequestKind.lengthOk, short]) rfl rfl)
    · exact congrArg Host.Outcome.next (State.request_reads h (by simp [RequestKind.lengthOk, empty]) rfl rfl)
    · refine congrArg Host.Outcome.next (State.request_reads h (by simp [RequestKind.lengthOk, hp]) rfl ?_)
      rw [hp, serveGetChannel_known, (s.beginTaking_fields rest).1]
    · refine congrArg Host.Outcome.next (State.request_reads h (by simp [RequestKind.lengthOk, hp]) rfl ?_)
      rw [hp, serveGetChannel_above above]
    · exact congrArg Host.Outcome.next (State.request_reads h (by simp [RequestKind.lengthOk, empty]) rfl rfl)
  · have fields := fieldAt_getChannel h n (codeByte Status.ok.code)
    have range := (LiveState.inRange_iff _ _).mp (h.livesInRange n)
    obtain ⟨-, -, signal, reported, -⟩ := range
    simp only [liveFields, List.forall_mem_cons] at fields
    obtain ⟨state, flags, baseline, sum, samples, raw, last, debounce, candidate, suppressed, active, drift, reverse,
      fault, report, -⟩ := fields
    refine ⟨?_, state, flags, baseline, sum, samples, raw, ?_, debounce, candidate, suppressed, active, drift, reverse,
      fault, ?_⟩
    · rw [List.length_cons, List.length_append, configBytes_length, liveBytes_eq, fieldBytes_length]
      simp [liveFields]
    · dsimp only
      rw [last, toInt_twosComplement (natAbs_getD_zero_le signal)]
    · dsimp only
      rw [report, toInt_twosComplement (natAbs_getD_zero_le reported)]
  · have read {x : PayloadField} (hx : x ∈ scanFields q) := fieldAt_getScan q (codeByte Status.ok.code) hx
    refine ⟨?_, ?_, fun i e hi => ?_, ?_, ?_⟩
    · rw [List.length_cons, scanBytes_length]
      omega
    · exact read (x := ⟨1, 1, q.list.length⟩) List.mem_cons_self
    · obtain ⟨channel, divider, watch⟩ := mem_entryFields (a := 2) hi
      have entry {x : PayloadField} (hx : x ∈ entryFields 2 q.list) :=
        read (List.mem_cons_of_mem _ (List.mem_append_left _ hx))
      have inByte : e.channel.val < 256 ^ 1 := e.channel.isLt.trans (by decide)
      refine ⟨(entry channel).trans (Nat.mod_eq_of_lt inByte), entry divider,
        (entry watch).trans (Nat.mod_eq_of_lt (e.watch.toNat_lt.trans (show 2 < 256 ^ 1 by decide)))⟩
    · exact read (x := ⟨2 + 3 * q.list.length, 2, q.runPeriod⟩) (by simp [scanFields])
    · exact read (x := ⟨4 + 3 * q.list.length, 2, q.watchPeriod⟩) (by simp [scanFields])

end Sys2Proof.Machine
end

section
/-! What the tracker does with a scan result, as one equation, and the report of the result (R10, R81, R91, R102, R104,
R109, R117 to R121). -/

namespace Sys2Proof.Machine

/-! ### The tracker's change, whole -/

/-- The notice queue after the transition of a verdict on channel c has been recorded (R6, R81 step 3, R104). -/
def State.transitionNotices (c : ChanId) (round : Nat) (v : Verdict) (s : State) : NoticeQueue :=
  match v.transition with
  | some t =>
    if s.channels[c].config.events then
      (s.notices.arrive
        (.state
          { channel := c, round := some round, previous := s.channels[c].live.state, next := v.live.state
            reason := t.reason, value := t.value })).1
    else s.notices
  | none => s.notices

/-- The live state of a channel after a verdict, with last raw and last signal (R10). -/
def State.judged (c : ChanId) (r : Reading) (s : State) : LiveState :=
  (s.verdict c r).live.withLast s.channels[c].config r

/-- The locks after a verdict (R91, R102). -/
def State.judgedLocks (c : ChanId) (r : Reading) (s : State) : Vector (Option ChanId) 4 :=
  (s.verdict c r).lock.apply c s.channels[c].config.delta.group s.locks

/-- The arrival of the RESULT record of a scan result (R120). -/
def State.resultArrival (c : ChanId) (round : Nat) (r : Reading) (s : State) : NoticeQueue × Bool :=
  (s.transitionNotices c round (s.verdict c r)).arrive (.result (resultRecord c round r (s.judged c r)))

theorem setLive_channels (c : ChanId) (l : LiveState) (s : State) :
    (s.setLive c l).channels = s.channels.set c { s.channels[c] with live := l } := rfl

theorem State.setLive_setLive (c : ChanId) (l l' : LiveState) (s : State) :
    (s.setLive c l).setLive c l' = s.setLive c l' := by
  simp [State.setLive]

/-- What the tracker changes: the live state and the locks by the verdict, and the notice queue by a STATE record and,
where one is due, by a RESULT record, whose placing sets the last reported value. -/
theorem State.trackResult_eq (c : ChanId) (round : Nat) (r : Reading) (s : State) :
    s.trackResult c round r =
      if resultDue s.channels[c].config r (s.judged c r) then
        State.setLive c ((s.judged c r).reported (s.resultArrival c round r).2)
          { s with locks := s.judgedLocks c r, notices := (s.resultArrival c round r).1 }
      else
        State.setLive c (s.judged c r)
          { s with locks := s.judgedLocks c r, notices := s.transitionNotices c round (s.verdict c r) } := by
  have recorded : State.addTransition c round s.channels[c].live.state (s.verdict c r)
      (State.setLive c (s.verdict c r).live { s with locks := s.judgedLocks c r }) =
      State.setLive c (s.verdict c r).live
        { s with locks := s.judgedLocks c r, notices := s.transitionNotices c round (s.verdict c r) } := by
    unfold State.addTransition State.transitionNotices State.addStateRecord
    cases (s.verdict c r).transition with
    | none => rfl
    | some t =>
      dsimp only
      rw [State.setLive_config]
      split <;> rfl
  unfold State.trackResult
  simp only
  rw [show (s.verdict c r).lock.apply c s.channels[c].config.delta.group s.locks = s.judgedLocks c r from rfl,
    recorded, State.setLive_setLive]
  unfold State.addResultRecord
  rw [State.setLive_config, State.setLive_live]
  simp only [State.setLive_notices]
  rw [show LiveState.withLast s.channels[c].config r (s.verdict c r).live = s.judged c r from rfl]
  split
  · exact State.setLive_setLive c (s.judged c r) ((s.judged c r).reported (s.resultArrival c round r).2)
      { s with locks := s.judgedLocks c r, notices := (s.resultArrival c round r).1 }
  · rfl

/-! ### The parts of the report -/

theorem lockOpenFor_eq (c : ChanId) (group : Option LockId) (locks : Vector (Option ChanId) 4) :
    lockOpenFor c group locks =
      match group with
      | none => true
      | some g => decide (locks[g] = none ∨ locks[g] = some c) := by
  cases group with
  | none => rfl
  | some g =>
    rw [Bool.eq_iff_iff]
    simp only [lockOpenFor]
    cases locks[g] <;> simp

/-- The lock of each group after a verdict on channel c. -/
theorem LockAction.apply_get (c : ChanId) (group : Option LockId) (a : LockAction) (locks : Vector (Option ChanId) 4)
    (g : LockId) :
    (a.apply c group locks)[g] =
      if group = some g then
        match a with
        | .keep => locks[g]
        | .take => some c
        | .free => if locks[g] = some c then none else locks[g]
      else locks[g] := by
  cases group with
  | none => cases a <;> rfl
  | some x =>
    have other (h : x ≠ g) (y : Option ChanId) : (locks.set x y)[g] = locks[g] := by
      rw [getElem_set_fin, if_neg h]
    have self (y : Option ChanId) : (locks.set x y)[x] = y := by rw [getElem_set_fin, if_pos rfl]
    by_cases h : x = g
    · subst h
      rw [if_pos rfl]
      cases a with
      | keep => rfl
      | take => exact self _
      | free =>
        show (if locks[x] = some c then locks.set x none else locks)[x] = _
        split
        · exact self _
        · rfl
    · rw [if_neg fun e => h (Option.some.inj e)]
      cases a with
      | keep => rfl
      | take => exact other h _
      | free =>
        show (if locks[x] = some c then locks.set x none else locks)[g] = _
        split
        · exact other h _
        · rfl

theorem signalOf_eq (d : Direction) (b x : Nat) :
    signalOf d b x = if d = .falling then (b : Int) - x else (x : Int) - b := by
  cases d <;> rfl

theorem LiveState.compared_eq (l : LiveState) :
    l.compared = if l.lastSignal.isSome then l.lastSignal else l.lastRaw.map fun x => (x : Int) := by
  unfold LiveState.compared
  cases l.lastSignal <;> rfl

/-- When CHANGE mode reports a compared value (R117, R118). -/
theorem changeDue_iff (step : Nat) (compared last : Option Int) :
    changeDue step compared last = true ↔
      ∃ x : Int, compared = some x ∧ ∀ y : Int, last = some y → step ≤ (x - y).natAbs := by
  cases compared with
  | none => simp [changeDue]
  | some x => cases last <;> simp [changeDue]

theorem Reading.isValid_iff (r : Reading) : r.isValid = true ↔ ∃ x, r = .value x := by
  cases r <;> simp [Reading.isValid]

/-- When a result creates a RESULT record (R117). -/
theorem resultDue_iff (cfg : ChannelConfig) (r : Reading) (l : LiveState) :
    resultDue cfg r l = true ↔
      cfg.resultMode = .every ∨ cfg.resultMode = .change ∧ (∃ x, r = .value x) ∧
        ∃ x : Int, l.compared = some x ∧ ∀ y : Int, l.lastReported = some y → cfg.changeStep ≤ (x - y).natAbs := by
  unfold resultDue
  cases cfg.resultMode <;> simp [Reading.isValid_iff, changeDue_iff]

/-- The last reported value after a placed or an unplaced record (R119). -/
theorem LiveState.reported_eq (placed : Bool) (l : LiveState) :
    l.reported placed = if placed = true ∧ l.compared ≠ none then { l with lastReported := l.compared } else l := by
  unfold LiveState.reported
  cases placed <;> cases l.compared <;> simp

theorem Reading.raw_eq (r : Reading) :
    r.raw = match r with | .value x => some x | .noSignal => none | .overrange => some 16777215 := by
  cases r <;> rfl

/-- Settles O49, from the equation of the tracker's change. -/
theorem resultsAreReported : Obligations.ResultsAreReported := by
  intro s c round r k old v raw signal compared l n1 changed wanted arrival t
  have verdict : s.verdict c r = v := congrArg (fun isOpen => detect k isOpen r old) (lockOpenFor_eq c _ s.locks)
  have judged : s.judged c r = l := by
    have hraw : r.raw = raw := r.raw_eq
    have hsignal : (r.raw.bind fun x => v.live.baseline.map fun b => signalOf k.delta.direction b x) = signal := by
      rw [hraw]
      simp only [signal, signalOf_eq]
      cases v.live.baseline <;> rfl
    unfold State.judged
    rw [verdict]
    show LiveState.withLast k r v.live = l
    unfold LiveState.withLast
    rw [hsignal, hraw]
  have notices : s.transitionNotices c round (s.verdict c r) = n1 := by
    rw [verdict]
    rfl
  have comparison : l.compared = compared := l.compared_eq
  have due : resultDue k r l = true ↔ wanted := by
    rw [resultDue_iff, comparison]
  have arrived : s.resultArrival c round r = arrival := by
    unfold State.resultArrival
    rw [notices, judged]
    rfl
  have whole : t = if resultDue k r l then
      State.setLive c (l.reported arrival.2) { s with locks := s.judgedLocks c r, notices := arrival.1 }
      else State.setLive c l { s with locks := s.judgedLocks c r, notices := n1 } := by
    show s.trackResult c round r = _
    rw [State.trackResult_eq, judged, arrived, notices]
  have locks : s.judgedLocks c r = v.lock.apply c k.delta.group s.locks := by
    rw [← verdict]
    rfl
  have tLocks : t.locks = s.judgedLocks c r := by
    rw [whole]
    split <;> rfl
  refine ⟨?_, fun d hd => ?_, fun g => ?_, fun no => ?_, fun yes => ?_, ?_⟩
  · rw [whole]
    split <;> exact State.setLive_config _ c c _
  · rw [whole]
    split <;> exact State.setLive_other _ c d _ hd.symm
  · rw [tLocks, locks]
    exact LockAction.apply_get c k.delta.group v.lock s.locks g
  · rw [whole, if_neg fun h => no (due.mp h)]
    exact ⟨rfl, State.setLive_live _ c l⟩
  · rw [whole, if_pos (due.mpr yes)]
    refine ⟨rfl, ?_⟩
    rw [State.setLive_live, LiveState.reported_eq, comparison]
  · rw [whole]
    split <;> exact ⟨rfl, rfl, rfl, rfl, rfl, rfl, rfl⟩

end Sys2Proof.Machine
end

section
/-! Grants: when a job is grantable and what it is given, what the grant does, and how a grant pass walks (R23, R27, R41
to R48, R51). -/

namespace Sys2Proof.Machine

/-! ### The lowest free unit and cell (R45, R47, R51) -/

theorem find_units (p : UnitId → Bool) (u : UnitId) :
    ([0, 1, 2, 3] : List UnitId).find? p = some u ↔ p u = true ∧ ∀ v < u, p v = false := by
  revert p u
  decide

theorem find_cells (p : CellId → Bool) (c : CellId) :
    ([0, 1] : List CellId).find? p = some c ↔ p c = true ∧ ∀ d < c, p d = false := by
  revert p c
  decide

theorem find_singleton {α : Type} (p : α → Bool) (a b : α) : [a].find? p = some b ↔ p b = true ∧ b = a := by
  cases h : p a with
  | true =>
    simp only [List.find?_cons, h, Option.some.injEq]
    exact ⟨fun e => ⟨e ▸ h, e.symm⟩, fun e => e.2.symm⟩
  | false =>
    simp only [List.find?_cons, h, List.find?_nil, reduceCtorEq, false_iff, not_and]
    rintro hb rfl
    simp [h] at hb

/-- The unit that a grant pass may give: the lowest FREE one, in WATCH CU0 alone. -/
theorem Resources.freeUnit_iff (watch : Bool) (res : Resources) (u : UnitId) :
    res.freeUnit watch = some u ↔
      res.units[u] = none ∧ (∀ v : UnitId, v < u → res.units[v] ≠ none) ∧ (watch = true → u = 0) := by
  unfold Resources.freeUnit grantableUnits
  cases watch with
  | false =>
    rw [if_neg (by decide), find_units]
    simp [Option.ne_none_iff_isSome]
  | true =>
    simp only [if_true, find_singleton, Option.isNone_iff_eq_none, forall_const]
    constructor
    · rintro ⟨free, rfl⟩
      exact ⟨free, fun v hv => absurd hv (Fin.not_lt_zero v), rfl⟩
    · exact fun h => ⟨h.1, h.2.2⟩

/-- The cell that a grant pass may give: the lowest free one, in WATCH OC0 alone. -/
theorem Resources.freeCell_iff (watch : Bool) (res : Resources) (c : CellId) :
    res.freeCell watch = some c ↔
      res.cells[c] = none ∧ (∀ d : CellId, d < c → res.cells[d] ≠ none) ∧ (watch = true → c = 0) := by
  unfold Resources.freeCell grantableCells
  cases watch with
  | false =>
    rw [if_neg (by decide), find_cells]
    simp [Option.ne_none_iff_isSome]
  | true =>
    simp only [if_true, find_singleton, Option.isNone_iff_eq_none, forall_const]
    constructor
    · rintro ⟨free, rfl⟩
      exact ⟨free, fun v hv => absurd hv (Fin.not_lt_zero v), rfl⟩
    · exact fun h => ⟨h.1, h.2.2⟩

/-! ### The offer (R45) -/

theorem Source.isOsc_iff (x : Source) : x.isOsc = true ↔ x ≠ .ext := by cases x <;> simp [Source.isOsc]

theorem PinClaim.admits_osc (c : PinClaim) : c.admits true = true ↔ c = .free := by
  cases c <;> simp [PinClaim.admits]

theorem PinClaim.admits_ext (c : PinClaim) : c.admits false = true ↔ c = .free ∨ ∃ n, c = .ext n := by
  cases c <;> simp [PinClaim.admits]

/-- A job with source EXT is offered the free unit at a pin without an oscillator claim. -/
theorem Resources.offer_ext {watch : Bool} {j : Job} {res : Resources} (h : j.snapshot.source = .ext) (u : UnitId)
    (cell : Option CellId) :
    res.offer watch j = some (u, cell) ↔ res.freeUnit watch = some u ∧ cell = none ∧
      (res.claims[j.snapshot.pin] = .free ∨ ∃ n, res.claims[j.snapshot.pin] = .ext n) := by
  have osc : j.snapshot.source.isOsc = false := by rw [h]; rfl
  rw [← PinClaim.admits_ext]
  unfold Resources.offer
  simp only [osc, Bool.false_eq_true, if_false]
  generalize res.claims[j.snapshot.pin].admits false = admitted
  cases res.freeUnit watch with
  | none => simp
  | some v =>
    have swap : none = cell ↔ cell = none := eq_comm
    cases admitted <;> simp [swap]

/-- A job with an oscillator source is offered the free unit and the free cell at a pin without a claim. -/
theorem Resources.offer_osc {watch : Bool} {j : Job} {res : Resources} (h : j.snapshot.source ≠ .ext) (u : UnitId)
    (cell : Option CellId) :
    res.offer watch j = some (u, cell) ↔ res.freeUnit watch = some u ∧ res.claims[j.snapshot.pin] = .free ∧
      ∃ c, cell = some c ∧ res.freeCell watch = some c := by
  have osc : j.snapshot.source.isOsc = true := (Source.isOsc_iff _).mpr h
  rw [← PinClaim.admits_osc]
  unfold Resources.offer
  simp only [osc, if_true]
  generalize res.claims[j.snapshot.pin].admits true = admitted
  cases res.freeUnit watch with
  | none => simp
  | some v =>
    cases admitted with
    | false => simp
    | true =>
      cases res.freeCell watch with
      | none => simp
      | some c =>
        have swap : some c = cell ↔ cell = some c := eq_comm
        simp [swap]

/-! ### The grant (R23, R27, R44, R48) -/

theorem setCell_get (cells : Vector (Option CellHold) 2) (cell : Option CellId) (h : Option CellHold) (c : CellId) :
    (setCell cells cell h)[c] = if cell = some c then h else cells[c] := by
  cases cell with
  | none => rfl
  | some d =>
    rw [setCell, getElem_set_fin]
    simp

theorem Resources.grant_unit (res : Resources) (j : Job) (u : UnitId) (cell : Option CellId) (v : UnitId) :
    (res.grant j u cell).units[v] = if u = v then some (Running.start j cell) else res.units[v] :=
  getElem_set_fin _ _ _ _

theorem Resources.grant_claim (res : Resources) (j : Job) (u : UnitId) (cell : Option CellId) (p : PinId) :
    (res.grant j u cell).claims[p] =
      if j.snapshot.pin = p then (res.claims[j.snapshot.pin]).taken j.snapshot.source.isOsc u else res.claims[p] :=
  getElem_set_fin _ _ _ _

theorem Resources.grant_cell (res : Resources) (j : Job) (u : UnitId) (cell : Option CellId) (c : CellId) :
    (res.grant j u cell).cells[c] =
      if cell = some c then
        some { pin := j.snapshot.pin, mode := j.snapshot.source.cellMode, driveLevel := j.snapshot.driveLevel }
      else res.cells[c] :=
  setCell_get _ _ _ _

theorem Source.cellMode_eq (x : Source) : x.cellMode = if x = .oscRes then .res else .cap := by cases x <;> rfl

/-- The first phase of a job (R27). -/
theorem firstPhase_cases (m : Measuring) :
    (m.source ≠ .ext → 1 ≤ m.settleCycles → firstPhase m = .settle) ∧
      (m.source = .ext ∨ m.settleCycles = 0 → firstPhase m = if m.mode = .gated then .count else .arm) := by
  constructor
  · intro h n
    simp [firstPhase, (Source.isOsc_iff _).mpr h, Nat.pos_iff_ne_zero.mp n]
  · rintro (h | h)
    · simp [firstPhase, h, Source.isOsc]
    · simp [firstPhase, h]

/-! ### The walk and the pass (R46 to R48) -/

/-- A walk goes past a granted job with the resources that remain. -/
theorem grantWalk_granted {watch : Bool} {j : Job} {res : Resources} {u : UnitId} {cell : Option CellId}
    (h : res.offer watch j = some (u, cell)) (js : List Job) :
    grantWalk watch (j :: js) res =
      ((j, true) :: (grantWalk watch js (res.grant j u cell)).1, (grantWalk watch js (res.grant j u cell)).2) := by
  simp only [grantWalk, h]

/-- A pass that grants its oldest job is the pass over the younger ones with the resources that remain. -/
theorem State.grantPass_granted {s : State} {j : Job} {js : List Job} (hq : s.queue = j :: js) {u : UnitId}
    {cell : Option CellId} (h : s.res.offer (s.seq.mode == .watch) j = some (u, cell)) :
    s.grantPass = State.grantPass { s with res := s.res.grant j u cell, queue := js } := by
  unfold State.grantPass
  rw [hq, grantWalk_granted h]
  rfl

/-- A unit after a walk: as it was, or FREE before and given to a job that waited. -/
theorem grantWalk_unit (watch : Bool) (js : List Job) (res : Resources) (v : UnitId) :
    (grantWalk watch js res).2.units[v] = res.units[v] ∨
      res.units[v] = none ∧ ∃ j ∈ js, ∃ cell, (grantWalk watch js res).2.units[v] = some (Running.start j cell) := by
  refine grantWalk_keeps
    (fun t => t.units[v] = res.units[v] ∨
      res.units[v] = none ∧ ∃ j ∈ js, ∃ cell, t.units[v] = some (Running.start j cell)) js ?_ res (.inl rfl)
  intro j hj t u cell ht offered
  have free := (Resources.freeUnit_some (Resources.offer_some offered).1).1
  by_cases e : u = v
  · subst e
    rcases ht with same | ⟨-, k, -, c, busy⟩
    · exact .inr ⟨same ▸ free, j, hj, cell, by rw [Resources.grant_unit, if_pos rfl]⟩
    · rw [busy] at free
      cases free
  · rw [Resources.grant_unit, if_neg e]
    exact ht

/-- Settles O43, clause by clause. -/
theorem grantTakesLowest : Obligations.GrantTakesLowest := by
  refine ⟨fun _ _ _ => rfl, fun watch j res u cell => ?_, fun watch j res u cell offered => ?_,
    fun watch j js res => ⟨fun u cell h => grantWalk_granted h js, fun h pass => ?_, fun h pass => ?_⟩,
    fun s j js hq => ⟨fun u cell h => State.grantPass_granted hq h, fun h alone => ?_⟩, fun s hq => ?_,
    fun s v => ⟨fun busy => ?_, fun free => ?_⟩⟩
  · by_cases h : j.snapshot.source = .ext
    · rw [Resources.offer_ext h, Resources.freeUnit_iff]
      simp [h]
    · rw [Resources.offer_osc h, Resources.freeUnit_iff]
      simp [h, Resources.freeCell_iff]
  · obtain ⟨-, -, osc, ext⟩ := Resources.offer_some offered
    obtain ⟨settle, other⟩ := firstPhase_cases j.snapshot
    refine ⟨⟨firstPhase j.snapshot, ?_, settle, fun _ n g => ?_, fun _ n p => ?_, fun e g => ?_, fun e p => ?_⟩,
      fun v hv => ?_, fun h => ?_, fun h free => ?_, fun h n claimed => ?_, fun p hp => ?_, fun c => ?_⟩
    · rw [Resources.grant_unit, if_pos rfl]
      rfl
    · rw [other (.inr n), if_pos g]
    · rw [other (.inr n), if_neg (by simp [p])]
    · rw [other (.inl e), if_pos g]
    · rw [other (.inl e), if_neg (by rcases p with p | p <;> simp [p])]
    · rw [Resources.grant_unit, if_neg hv.symm]
    · rw [Resources.grant_claim, if_pos rfl, (Source.isOsc_iff _).mpr h]
      rfl
    · rw [Resources.grant_claim, if_pos rfl, h, free]
      rfl
    · rw [Resources.grant_claim, if_pos rfl, h, claimed]
      rfl
    · rw [Resources.grant_claim, if_neg hp.symm]
    · rw [Resources.grant_cell, Source.cellMode_eq]
  · simp only [grantWalk, h, if_pos pass]
  · simp only [grantWalk, h, if_neg (Nat.not_lt.mpr pass)]
  · subst alone
    refine State.grantPass_idle ?_
    rw [hq]
    simp only [grantWalk, h]
    split <;> simp
  · refine State.grantPass_idle ?_
    rw [hq]
    simp [grantWalk]
  · rcases grantWalk_unit (s.seq.mode == .watch) s.queue s.res v with same | ⟨none, -⟩
    · exact same
    · exact absurd none busy
  · rcases grantWalk_unit (s.seq.mode == .watch) s.queue s.res v with same | ⟨-, given⟩
    · exact .inl (same.trans free)
    · exact .inr given

end Sys2Proof.Machine
end

section
/-! Three parts of the invariant that each single change of a block keeps by itself: the notice queue (R143 to R146),
the job queue (R42, R50), and the agreement of claims, cells and units (R23, R44). -/

namespace Sys2Proof.Machine

/-! ### The notice queue (R140, R143, R145, R146) -/

/-- The notice queue within its bounds. -/
def NoticeQueue.Sound (q : NoticeQueue) : Prop := q.Fits ∧ q.Stretched ∧ q.tally.Fits

theorem bump_le (n : Nat) : bump n ≤ Config.countMax := Nat.min_le_right _ _

theorem Tally.fits_countResult {t : Tally} (h : t.Fits) : t.countResult.Fits := ⟨bump_le _, h.2.1, h.2.2⟩

theorem Tally.fits_countDiscard {t : Tally} (h : t.Fits) (r : Record) : (t.countDiscard r).Fits := by
  unfold Tally.countDiscard
  split
  · exact Tally.fits_countResult h
  · split
    · exact ⟨h.1, bump_le _, h.2.2⟩
    · exact ⟨h.1, h.2.1, bump_le _⟩

theorem oneResultPerStretch_cons {c : ChanId} {r : Record} {rs : List Record} :
    oneResultPerStretch c (r :: rs) = true ↔
      resultsInStretch c (r :: rs) ≤ 1 ∧ oneResultPerStretch c rs = true := by
  simp [oneResultPerStretch]

theorem Record.isStateOf_of_isResult {r : Record} (h : r.isResult = true) (c : ChanId) : r.isStateOf c = false := by
  cases r <;> simp_all [Record.isResult, Record.isStateOf]

theorem Record.isResultOf_of_not_isResult {r : Record} (h : r.isResult = false) (c : ChanId) :
    r.isResultOf c = false := by
  cases r <;> simp_all [Record.isResult, Record.isResultOf]

/-- The younger part of the queue is stretched when the whole is. -/
theorem oneResultPerStretch_tail {c : ChanId} {r : Record} {rs : List Record}
    (h : oneResultPerStretch c (r :: rs) = true) : oneResultPerStretch c rs = true :=
  (oneResultPerStretch_cons.mp h).2

/-- A reading taken out of the queue adds to no stretch. -/
theorem stretched_withoutOldestResult {c : ChanId} {q rest : List Record} (h : withoutOldestResult q = some rest) :
    resultsInStretch c rest ≤ resultsInStretch c q ∧
      (oneResultPerStretch c q = true → oneResultPerStretch c rest = true) := by
  induction q generalizing rest with
  | nil => cases h
  | cons r rs ih =>
    unfold withoutOldestResult at h
    split at h
    · next isResult =>
      cases h
      refine ⟨?_, oneResultPerStretch_tail⟩
      rw [resultsInStretch, if_neg (by simp [Record.isStateOf_of_isResult isResult])]
      exact Nat.le_add_left _ _
    · obtain ⟨rest', h', rfl⟩ := Option.map_eq_some_iff.mp h
      obtain ⟨le, kept⟩ := ih h'
      have count : resultsInStretch c (r :: rest') ≤ resultsInStretch c (r :: rs) := by
        unfold resultsInStretch
        split
        · exact Nat.le_refl _
        · exact Nat.add_le_add_left le _
      refine ⟨count, fun hq => ?_⟩
      rw [oneResultPerStretch_cons] at hq ⊢
      exact ⟨count.trans hq.1, kept hq.2⟩

theorem withoutOldestResult_length {q rest : List Record} (h : withoutOldestResult q = some rest) :
    rest.length + 1 = q.length := by
  induction q generalizing rest with
  | nil => cases h
  | cons r rs ih =>
    unfold withoutOldestResult at h
    split at h
    · cases h
      rfl
    · obtain ⟨rest', h', rfl⟩ := Option.map_eq_some_iff.mp h
      simp [ih h']

/-- A record that is no reading of a channel joins the queue without adding to a stretch of that channel. -/
theorem stretched_append_other {c : ChanId} {r : Record} (h : r.isResultOf c = false) (q : List Record) :
    resultsInStretch c (q ++ [r]) = resultsInStretch c q ∧
      (oneResultPerStretch c q = true → oneResultPerStretch c (q ++ [r]) = true) := by
  induction q with
  | nil => simp [resultsInStretch, oneResultPerStretch, h]
  | cons x xs ih =>
    obtain ⟨same, kept⟩ := ih
    have count : resultsInStretch c (x :: (xs ++ [r])) = resultsInStretch c (x :: xs) := by
      rw [resultsInStretch, same, resultsInStretch]
    refine ⟨count, fun hq => ?_⟩
    rw [oneResultPerStretch_cons] at hq
    rw [List.cons_append, oneResultPerStretch_cons, count]
    exact ⟨hq.1, kept hq.2⟩

/-- Whether the stretch of a channel that the queue ends with holds no reading of it. -/
def endsWithoutReading (c : ChanId) (q : List Record) : Prop :=
  ∀ pre post, q = pre ++ post → (∀ r ∈ post, r.isStateOf c = false) → ∀ r ∈ post, r.isResultOf c = false

/-- Where a reading cannot be coalesced, the queue ends in a stretch without a reading of its channel (R143). -/
theorem endsWithoutReading_of_coalesce {new : ResultRecord} {q : List Record} (h : coalesce new q = none) :
    endsWithoutReading new.channel q := by
  have youngest : ∀ (p : List Record), overwriteYoungest new p = none →
      ∀ post pre, p = post ++ pre → (∀ r ∈ post, r.isStateOf new.channel = false) →
        ∀ r ∈ post, r.isResultOf new.channel = false := by
    intro p
    induction p with
    | nil =>
      intro _ post pre e _ r hr
      simp only [List.nil_eq, List.append_eq_nil_iff] at e
      rw [e.1] at hr
      cases hr
    | cons x xs ih =>
      intro hx post pre e noState r hr
      cases post with
      | nil => cases hr
      | cons y ys =>
        rw [List.cons_append, List.cons.injEq] at e
        obtain ⟨rfl, rest⟩ := e
        unfold overwriteYoungest at hx
        split at hx
        · cases hx
        · next notResult =>
          rw [if_neg (by simp [noState x List.mem_cons_self])] at hx
          rcases List.mem_cons.mp hr with rfl | hr
          · simpa using notResult
          · exact ih (Option.map_eq_none_iff.mp hx) ys pre rest
              (fun z hz => noState z (List.mem_cons_of_mem _ hz)) r hr
  intro pre post e noState r hr
  refine youngest q.reverse (Option.map_eq_none_iff.mp h) post.reverse pre.reverse (by rw [e, List.reverse_append]) ?_ r
    (List.mem_reverse.mpr hr)
  exact fun z hz => noState z (List.mem_reverse.mp hz)

/-- A reading that joins a queue which ends without one of its channel is alone in its stretch. -/
theorem stretched_append_reading {c : ChanId} {r : Record} {q : List Record} (h : endsWithoutReading c q)
    (hq : oneResultPerStretch c q = true) :
    ((∀ x ∈ q, x.isStateOf c = false) → resultsInStretch c (q ++ [r]) ≤ 1) ∧
      ((∃ x ∈ q, x.isStateOf c = true) → resultsInStretch c (q ++ [r]) = resultsInStretch c q) ∧
      oneResultPerStretch c (q ++ [r]) = true := by
  induction q with
  | nil =>
    have one : resultsInStretch c [r] ≤ 1 := by
      unfold resultsInStretch resultsInStretch
      split
      · exact Nat.zero_le _
      · split <;> decide
    refine ⟨fun _ => one, by simp, ?_⟩
    rw [List.nil_append, oneResultPerStretch_cons]
    exact ⟨one, rfl⟩
  | cons x xs ih =>
    have tail : endsWithoutReading c xs := fun pre post e => h (x :: pre) post (by rw [e, List.cons_append])
    obtain ⟨alone, same, kept⟩ := ih tail (oneResultPerStretch_tail hq)
    have none (noState : ∀ y ∈ x :: xs, y.isStateOf c = false) : resultsInStretch c (x :: xs ++ [r]) ≤ 1 := by
      have notResult := h [] (x :: xs) rfl noState x List.mem_cons_self
      rw [List.cons_append, resultsInStretch, notResult, noState x List.mem_cons_self]
      simpa using alone fun y hy => noState y (List.mem_cons_of_mem _ hy)
    have some (state : ∃ y ∈ x :: xs, y.isStateOf c = true) :
        resultsInStretch c (x :: xs ++ [r]) = resultsInStretch c (x :: xs) := by
      rw [List.cons_append, resultsInStretch, resultsInStretch]
      cases hx : x.isStateOf c with
      | true => simp
      | false =>
        obtain ⟨y, hy, isState⟩ := state
        have hy : y ∈ xs := by
          rcases List.mem_cons.mp hy with rfl | hy
          · rw [hx] at isState
            cases isState
          · exact hy
        rw [same ⟨y, hy, isState⟩]
    refine ⟨none, some, ?_⟩
    rw [List.cons_append, oneResultPerStretch_cons]
    refine ⟨?_, kept⟩
    by_cases state : ∃ y ∈ x :: xs, y.isStateOf c = true
    · rw [← List.cons_append, some state]
      exact (oneResultPerStretch_cons.mp hq).1
    · refine none fun y hy => ?_
      rw [← Bool.not_eq_true]
      exact fun hs => state ⟨y, hy, hs⟩

/-- The stretches depend only on which records are states and readings of the channel. -/
theorem oneResultPerStretch_congr {c : ChanId} {p q : List Record}
    (h : p.map (fun r => (r.isStateOf c, r.isResultOf c)) = q.map (fun r => (r.isStateOf c, r.isResultOf c))) :
    resultsInStretch c p = resultsInStretch c q ∧ oneResultPerStretch c p = oneResultPerStretch c q := by
  induction p generalizing q with
  | nil =>
    rw [List.map_nil, eq_comm, List.map_eq_nil_iff] at h
    rw [h]
    exact ⟨rfl, rfl⟩
  | cons x xs ih =>
    cases q with
    | nil => cases h
    | cons y ys =>
      simp only [List.map_cons, List.cons.injEq, Prod.mk.injEq] at h
      obtain ⟨⟨state, result⟩, rest⟩ := h
      obtain ⟨count, kept⟩ := ih rest
      have head : resultsInStretch c (x :: xs) = resultsInStretch c (y :: ys) := by
        rw [resultsInStretch, resultsInStretch, state, result, count]
      exact ⟨head, by rw [oneResultPerStretch, oneResultPerStretch, head, kept]⟩

/-- A coalesced reading stands in the place of an older one of its channel (R143). -/
theorem coalesce_some {new : ResultRecord} {q rs : List Record} (h : coalesce new q = some rs) :
    ∃ older old younger, q = older ++ .result old :: younger ∧ old.channel = new.channel ∧
      rs = older ++ .result new :: younger := by
  have youngest : ∀ p ps, overwriteYoungest new p = some ps → ∃ pre old post, p = pre ++ .result old :: post ∧
      old.channel = new.channel ∧ ps = pre ++ .result new :: post := by
    intro p
    induction p with
    | nil => intro ps hp; cases hp
    | cons x xs ih =>
      intro ps hp
      unfold overwriteYoungest at hp
      split at hp
      · next isResult =>
        cases hp
        cases x with
        | result old => exact ⟨[], old, xs, rfl, by simpa [Record.isResultOf] using isResult, rfl⟩
        | hello | state | opDone | scan => simp [Record.isResultOf] at isResult
      · split at hp
        · cases hp
        · obtain ⟨ys, hys, rfl⟩ := Option.map_eq_some_iff.mp hp
          obtain ⟨pre, old, post, rfl, same, rfl⟩ := ih ys hys
          exact ⟨x :: pre, old, post, rfl, same, rfl⟩
  obtain ⟨ps, hps, rfl⟩ := Option.map_eq_some_iff.mp h
  obtain ⟨pre, old, post, hq, same, rfl⟩ := youngest _ _ hps
  refine ⟨post.reverse, old, pre.reverse, ?_, same, by simp⟩
  rw [← List.reverse_reverse q, hq]
  simp

/-- A record's arrival keeps the bounds of the notice queue (R142 to R146). -/
theorem NoticeQueue.sound_arrive {q : NoticeQueue} (h : q.Sound) (r : Record) : (q.arrive r).1.Sound := by
  obtain ⟨fits, stretched, tally⟩ := h
  obtain ⟨rs, hr, e⟩ | ⟨hr, room, e⟩ | ⟨-, -, -, e⟩ | ⟨rest, -, full, other, hr, e⟩ | ⟨-, -, -, -, e⟩ :=
    NoticeQueue.arrive_cases r q <;> rw [e]
  · cases r with
    | hello | state | opDone | scan => cases hr
    | result new =>
      obtain ⟨older, old, younger, hq, same, rfl⟩ := coalesce_some hr
      refine ⟨?_, fun c => ?_, tally⟩
      · simpa [NoticeQueue.Fits, hq] using fits
      · have tags : (older ++ Record.result new :: younger).map (fun r => (r.isStateOf c, r.isResultOf c)) =
            q.records.map fun r => (r.isStateOf c, r.isResultOf c) := by
          rw [hq]
          simp [Record.isStateOf, Record.isResultOf, same]
        exact (oneResultPerStretch_congr tags).2.trans (stretched c)
  · refine ⟨?_, fun c => ?_, tally⟩
    · simpa using room
    · cases hc : r.isResultOf c with
      | false => exact (stretched_append_other hc q.records).2 (stretched c)
      | true =>
        cases r with
        | hello | state | opDone | scan => cases hc
        | result new =>
          have ends : endsWithoutReading c q.records := by
            rw [← of_decide_eq_true hc]
            exact endsWithoutReading_of_coalesce hr
          exact (stretched_append_reading ends (stretched c)).2.2
  · exact ⟨fits, stretched, Tally.fits_countResult tally⟩
  · refine ⟨?_, fun c => ?_, Tally.fits_countResult tally⟩
    · have := withoutOldestResult_length hr
      simp only [NoticeQueue.Fits, List.length_append, List.length_singleton]
      omega
    · exact (stretched_append_other (Record.isResultOf_of_not_isResult other c) rest).2
        ((stretched_withoutOldestResult hr).2 (stretched c))
  · exact ⟨fits, stretched, Tally.fits_countDiscard tally r⟩

theorem Tally.zero_fits : Tally.zero.Fits := ⟨Nat.zero_le _, Nat.zero_le _, Nat.zero_le _⟩

/-- What a first transmission leaves of the notice queue keeps its bounds (R147, R148). -/
theorem NoticeQueue.sound_offer {q q' : NoticeQueue} {b : NoticeBody} (h : q.Sound) (ho : q.offer = some (b, q')) :
    q'.Sound := by
  obtain ⟨fits, stretched, tally⟩ := h
  unfold NoticeQueue.offer at ho
  split at ho
  · split at ho
    · cases ho
    · next r rs hq =>
      cases ho
      refine ⟨?_, fun c => ?_, tally⟩
      · simp only [NoticeQueue.Fits, hq, List.length_cons] at fits ⊢
        omega
      · exact oneResultPerStretch_tail (hq ▸ stretched c)
  · cases ho
    exact ⟨fits, stretched, Tally.zero_fits⟩

theorem NoticeQueue.sound_flushed {q : NoticeQueue} (h : q.Sound) (scope : FlushScope) : (q.flushed scope).Sound := by
  cases scope with
  | inFlight => exact ⟨h.1, h.2.1, Tally.zero_fits⟩
  | queue | both => exact ⟨Nat.zero_le _, fun _ => rfl, Tally.zero_fits⟩

/-- Each single change of a block keeps the bounds of the notice queue. -/
theorem State.noticesSound_kept : KeptByChanges fun s => s.notices.Sound where
  seq _ _ h := h
  ops _ _ h := h
  choices _ _ h := h
  link _ _ _ _ _ _ h := h
  locks _ _ h := h
  live _ _ _ h := h
  config _ _ _ h _ := h
  record _ r h := NoticeQueue.sound_arrive h r
  offered _ _ _ h ho := NoticeQueue.sound_offer h ho
  flushed _ scope h := NoticeQueue.sound_flushed h scope
  granted _ h := h
  entered _ _ _ h _ := h
  dropped _ _ h := h
  released _ _ _ h _ := h
  unit _ _ _ _ h _ _ _ _ := h
  reset s k speed _ held _ := by
    have sound := State.afterReset_sound k speed LinkParams.default_inRange held s
    exact ⟨sound.noticesFit, sound.stretched, sound.tallyFits⟩

/-! ### The job queue (R42, R50) -/

/-- The job queue within its bounds. -/
def State.QueueSound (s : State) : Prop := s.JobsFit ∧ s.PassCountsFit

/-- A grant pass leaves at most as many jobs waiting, of either kind. -/
theorem State.countP_grantPass {p : Job → Bool} (hp : ∀ j : Job, p j.bare = p j) (s : State) :
    s.grantPass.queue.countP p ≤ s.queue.countP p := by
  have bare (js : List Job) : (js.map Job.bare).countP p = js.countP p := by
    rw [List.countP_map]
    exact congrArg (fun f => js.countP f) (funext hp)
  have := (raisePassCounts_sublist (grantWalk (s.seq.mode == .watch) s.queue s.res).1).countP_le (p := p)
  rw [grantWalk_bare, bare, bare] at this
  exact this

/-- A walk that stops at a job with pass count 4 raises no pass count above 4 (R47, R49, R50). -/
theorem passCounts_raised {watch : Bool} {js : List Job} (h : ∀ j ∈ js, j.passCount ≤ Config.passLimit)
    (res : Resources) : ∀ j ∈ (raisePassCounts (grantWalk watch js res).1).1, j.passCount ≤ Config.passLimit := by
  induction js generalizing res with
  | nil =>
    intro j hj
    cases hj
  | cons j js ih =>
    have younger := ih fun k hk => h k (List.mem_cons_of_mem _ hk)
    have own := h j List.mem_cons_self
    unfold grantWalk
    split
    · exact younger _
    · split
      · next below =>
        simp only [raisePassCounts, Bool.false_eq_true, if_false]
        split
        · exact List.forall_mem_cons.mpr ⟨below, younger res⟩
        · exact List.forall_mem_cons.mpr ⟨own, younger res⟩
      · rw [raisePassCounts_none _ (by simp)]
        simpa [Function.comp_def] using h

theorem State.QueueSound.grantPass {s : State} (h : s.QueueSound) : s.grantPass.QueueSound :=
  ⟨⟨(State.countP_grantPass (fun _ => rfl) s).trans h.1.1, (State.countP_grantPass (fun _ => rfl) s).trans h.1.2⟩,
    passCounts_raised h.2 s.res⟩

/-- Each single change of a block keeps the bounds of the job queue. -/
theorem State.queueSound_kept : KeptByChanges State.QueueSound where
  seq _ _ h := h
  ops _ _ h := h
  choices _ _ h := h
  link _ _ _ _ _ _ h := h
  locks _ _ h := h
  live _ _ _ h := h
  config _ _ _ h _ := h
  record _ _ h := h
  offered _ _ _ h _ := h
  flushed _ _ h := h
  granted _ h := h.grantPass
  entered s o c h free := by
    refine State.QueueSound.grantPass ⟨?_, fun j hj => ?_⟩
    · have scan : s.queue.countP Job.isScan ≤ Config.scanSlots := h.1.1
      have op : s.queue.countP Job.isOp ≤ Config.opSlots := h.1.2
      simp only [State.JobsFit, State.scanWaiting, State.opWaiting, List.countP_append, List.countP_singleton]
      cases o with
      | scan entry round =>
        have room : s.queue.countP Job.isScan < Config.scanSlots := of_decide_eq_true free
        exact ⟨room, op⟩
      | op id entry => exact ⟨scan, free⟩
    · rcases List.mem_append.mp hj with hj | hj
      · exact h.2 j hj
      · rw [List.mem_singleton.mp hj]
        exact Nat.zero_le _
  dropped s named h :=
    ⟨⟨(List.filter_sublist.countP_le).trans h.1.1, (List.filter_sublist.countP_le).trans h.1.2⟩,
      fun j hj => h.2 j (List.mem_of_mem_filter hj)⟩
  released _ _ _ h _ := h
  unit _ _ _ _ h _ _ _ _ := h
  reset _ _ _ _ _ _ := ⟨⟨Nat.zero_le _, Nat.zero_le _⟩, fun j hj => by cases hj⟩

/-! ### Claims, cells and units (R23, R44) -/

/-- The claim entry that running jobs call for does not depend on their order. -/
theorem claimFor_perm {xs ys : List (UnitId × Running)} (h : xs.Perm ys) : claimFor xs = claimFor ys := by
  match xs, ys with
  | [], ys => rw [List.nil_perm.mp h]
  | [x], ys => rw [List.singleton_perm.mp h]
  | x :: x' :: xs, ys =>
    match ys with
    | [] => exact absurd h.length_eq (by simp)
    | [y] => exact absurd h.length_eq (by simp)
    | y :: y' :: ys => rw [claimFor, claimFor, h.any_eq, h.length_eq] <;> simp

/-- The content of a cell that running jobs call for does not depend on their order. -/
theorem cellFor_perm {xs ys : List (UnitId × Running)} (h : xs.Perm ys) : cellFor xs = cellFor ys := by
  match xs, ys with
  | [], ys => rw [List.nil_perm.mp h]
  | [x], ys => rw [List.singleton_perm.mp h]
  | x :: x' :: xs, ys =>
    match ys with
    | [] => exact absurd h.length_eq (by simp)
    | [y] => exact absurd h.length_eq (by simp)
    | y :: y' :: ys => rfl

/-- Of a running job only the job itself calls for a claim and for the content of a cell. -/
theorem claimFor_congr {u : UnitId} {r q : Running} (job : r.job = q.job) (xs : List (UnitId × Running)) :
    claimFor ((u, r) :: xs) = claimFor ((u, q) :: xs) := by
  cases r
  cases q
  cases job
  cases xs <;> rfl

theorem cellFor_congr {u : UnitId} {r q : Running} (job : r.job = q.job) (xs : List (UnitId × Running)) :
    cellFor ((u, r) :: xs) = cellFor ((u, q) :: xs) := by
  cases r
  cases q
  cases job
  cases xs <;> rfl

/-- One more claim at a pin whose entry admits it (R44). -/
theorem claimFor_cons {xs : List (UnitId × Running)} {c : PinClaim} (h : claimFor xs = some c) (u : UnitId)
    (r : Running) (admits : c.admits r.job.snapshot.source.isOsc = true) :
    claimFor ((u, r) :: xs) = some (c.taken r.job.snapshot.source.isOsc u) := by
  cases hr : r.job.snapshot.source.isOsc with
  | true =>
    rw [hr, PinClaim.admits_osc] at admits
    subst admits
    match xs with
    | [] => simp [claimFor, hr, PinClaim.taken]
    | [(v, q)] =>
      simp only [claimFor, Option.some.injEq] at h
      split at h <;> cases h
    | x :: y :: zs =>
      simp only [claimFor] at h
      split at h <;> cases h
  | false =>
    match xs with
    | [] =>
      cases h
      simp [claimFor, hr, PinClaim.taken]
    | [(v, q)] =>
      rw [hr, PinClaim.admits_ext] at admits
      simp only [claimFor, Option.some.injEq] at h
      split at h
      · subst h
        simp at admits
      · next hq =>
        subst h
        simp [claimFor, hr, hq, PinClaim.taken]
    | x :: y :: zs =>
      simp only [claimFor] at h
      split at h
      · cases h
      · next hq =>
        cases h
        simp only [Bool.not_eq_true] at hq
        simp only [claimFor, List.any_cons, hr, Bool.false_or] at hq ⊢
        rw [if_neg (by simp [hq])]
        rfl

/-- One claim less at a pin (R35 step 3, R44). -/
theorem claimFor_of_cons {xs : List (UnitId × Running)} {c : PinClaim} {u : UnitId} {r : Running}
    (h : claimFor ((u, r) :: xs) = some c) : claimFor xs = some c.released := by
  match xs with
  | [] =>
    simp only [claimFor, Option.some.injEq] at h
    subst h
    split <;> rfl
  | [(v, q)] =>
    simp only [claimFor] at h
    split at h
    · cases h
    · next hq =>
      cases h
      simp only [List.any_cons, List.any_nil, Bool.or_false, Bool.or_eq_true, not_or] at hq
      simp [claimFor, hq.2, PinClaim.released]
  | x :: y :: zs =>
    simp only [claimFor] at h
    split at h
    · cases h
    · next hq =>
      cases h
      simp only [List.any_cons, Bool.or_eq_true, not_or] at hq
      simp [claimFor, hq.2.1, hq.2.2, PinClaim.released]

/-- A cell that a job holds is held by no other (R23). -/
theorem cellFor_of_cons {xs : List (UnitId × Running)} {x : UnitId × Running} {h : Option CellHold}
    (hx : cellFor (x :: xs) = some h) : cellFor xs = some none := by
  cases xs with
  | nil => rfl
  | cons y ys => cases hx

theorem cellFor_none {xs : List (UnitId × Running)} (h : cellFor xs = some none) : xs = [] := by
  match xs with
  | [] => rfl
  | [x] => cases h
  | x :: y :: zs => cases h

theorem Resources.Agree.grant {res : Resources} (h : res.Agree) {watch : Bool} {j : Job} {u : UnitId}
    {cell : Option CellId} (offered : res.offer watch j = some (u, cell)) : (res.grant j u cell).Agree := by
  obtain ⟨claims, cells, held⟩ := h
  obtain ⟨unit, admits, osc, ext⟩ := Resources.offer_some offered
  have run := Resources.running_grant (Resources.freeUnit_some unit).1 j cell
  refine ⟨fun p => ?_, fun c => ?_, fun x hx => ?_⟩
  · rw [Resources.grant_claim, Resources.onPin, claimFor_perm (run.filter _), List.filter_cons]
    by_cases hp : j.snapshot.pin = p
    · subst hp
      rw [if_pos rfl, if_pos (by simp [Running.start])]
      exact claimFor_cons (claims _) u (Running.start j cell) admits
    · rw [if_neg hp, if_neg (by simpa [Running.start] using hp)]
      exact claims p
  · rw [Resources.grant_cell, cellFor_perm (run.filter _), List.filter_cons]
    by_cases hc : cell = some c
    · rw [if_pos hc, if_pos (by simp [Running.start, hc])]
      have free : res.cells[c] = none := by
        cases hs : j.snapshot.source.isOsc with
        | false =>
          rw [ext hs] at hc
          cases hc
        | true =>
          obtain ⟨d, hd, e⟩ := osc hs
          rw [hc] at e
          cases e
          exact (Resources.freeCell_some hd).1
      have none : res.running.filter (fun x => x.2.cell == some c) = [] := cellFor_none (by rw [cells c, free])
      rw [none]
      rfl
    · rw [if_neg hc, if_neg (by simpa [Running.start] using hc)]
      exact cells c
  · rcases List.mem_cons.mp (run.mem_iff.mp hx) with rfl | hx
    · show cell.isSome = j.snapshot.source.isOsc
      cases hs : j.snapshot.source.isOsc with
      | false => rw [ext hs]; rfl
      | true =>
        obtain ⟨d, -, e⟩ := osc hs
        rw [e]
        rfl
    · exact held x hx

theorem Resources.release_claim (res : Resources) (u : UnitId) (r : Running) (p : PinId) :
    (res.release u r).claims[p] =
      if r.job.snapshot.pin = p then (res.claims[r.job.snapshot.pin]).released else res.claims[p] :=
  getElem_set_fin _ _ _ _

theorem Resources.release_cell (res : Resources) (u : UnitId) (r : Running) (c : CellId) :
    (res.release u r).cells[c] = if r.cell = some c then none else res.cells[c] :=
  setCell_get _ _ _ _

theorem Resources.release_unit (res : Resources) (u : UnitId) (r : Running) (v : UnitId) :
    (res.release u r).units[v] = if u = v then none else res.units[v] :=
  getElem_set_fin _ _ _ _

theorem Resources.Agree.release {res : Resources} (h : res.Agree) {u : UnitId} {r : Running}
    (busy : res.units[u] = some r) : (res.release u r).Agree := by
  obtain ⟨claims, cells, held⟩ := h
  have run := Resources.running_release (r := r) busy
  refine ⟨fun p => ?_, fun c => ?_, fun x hx => held x (run.mem_iff.mpr (List.mem_cons_of_mem _ hx))⟩
  · have before := claims p
    rw [Resources.onPin, claimFor_perm (run.filter _), List.filter_cons] at before
    rw [Resources.release_claim]
    by_cases hp : r.job.snapshot.pin = p
    · subst hp
      rw [if_pos (by simp)] at before
      rw [if_pos rfl]
      exact claimFor_of_cons before
    · rw [if_neg (by simpa using hp)] at before
      rw [if_neg hp]
      exact before
  · have before := cells c
    rw [cellFor_perm (run.filter _), List.filter_cons] at before
    rw [Resources.release_cell]
    by_cases hc : r.cell = some c
    · rw [if_pos (by simp [hc])] at before
      rw [if_pos hc]
      exact cellFor_of_cons before
    · rw [if_neg (by simpa using hc)] at before
      rw [if_neg hc]
      exact before

/-- A change of a run that leaves its job and its cell keeps the agreement. -/
theorem Resources.Agree.setUnit {s : State} (h : s.res.Agree) {u : UnitId} {q r : Running}
    (busy : s.res.units[u] = some q) (job : r.job = q.job) (cell : r.cell = q.cell) : (s.setUnit u r).res.Agree := by
  obtain ⟨claims, cells, held⟩ := h
  have before := Resources.running_release (r := q) busy
  have after : (s.setUnit u r).res.running.Perm ((u, r) :: (s.res.release u q).running) := by
    refine Resources.running_set (res := s.res.release u q) ?_ ?_
    · rw [Resources.release_unit, if_pos rfl]
    · simp [State.setUnit, Resources.release]
  refine ⟨fun p => ?_, fun c => ?_, fun x hx => ?_⟩
  · rw [show (s.setUnit u r).res.claims[p] = s.res.claims[p] from rfl, ← claims p, Resources.onPin, Resources.onPin,
      claimFor_perm (after.filter _), claimFor_perm (before.filter _), List.filter_cons, List.filter_cons]
    simp only [job]
    split
    · exact claimFor_congr job _
    · rfl
  · rw [show (s.setUnit u r).res.cells[c] = s.res.cells[c] from rfl, ← cells c, cellFor_perm (after.filter _),
      cellFor_perm (before.filter _), List.filter_cons, List.filter_cons]
    simp only [cell]
    split
    · exact cellFor_congr job _
    · rfl
  · rcases List.mem_cons.mp (after.mem_iff.mp hx) with rfl | hx
    · rw [job, cell]
      exact held (u, q) (before.mem_iff.mpr List.mem_cons_self)
    · exact held x (before.mem_iff.mpr (List.mem_cons_of_mem _ hx))

theorem Resources.Agree.grantPass {s : State} (h : s.res.Agree) : s.grantPass.res.Agree :=
  grantWalk_keeps Resources.Agree s.queue (fun _ _ _ _ _ ht offered => ht.grant offered) s.res h

/-- Each single change of a block keeps claims, cells and units in agreement. -/
theorem State.agree_kept : KeptByChanges fun s => s.res.Agree where
  seq _ _ h := h
  ops _ _ h := h
  choices _ _ h := h
  link _ _ _ _ _ _ h := h
  locks _ _ h := h
  live _ _ _ h := h
  config _ _ _ h _ := h
  record _ _ h := h
  offered _ _ _ h _ := h
  flushed _ _ h := h
  granted s h := Resources.Agree.grantPass (s := s) h
  entered s o c h _ :=
    Resources.Agree.grantPass (s := { s with queue := s.queue ++ [s.newJob o c] }) h
  dropped _ _ h := h
  released _ _ _ h busy := h.release busy
  unit _ _ _ _ h busy job cell _ := h.setUnit busy job cell
  reset s k speed _ held _ := (State.afterReset_sound k speed LinkParams.default_inRange held s).resourcesAgree

end Sys2Proof.Machine
end

section
/-! The jobs against the books of their producers: every job belongs to an outstanding entry of the round in progress or
to an operation that has its job outstanding, also while a withdrawal or a completion has taken a job from its unit and
its origin is not yet told (R41, R69, R70, R123, R128, R129). -/

namespace Sys2Proof.Machine

/-! ### Jobs up to order and pass counts -/

/-- Two lists hold the same jobs, up to their order and pass counts. -/
def SameJobs (xs ys : List Job) : Prop := (xs.map Job.bare).Perm (ys.map Job.bare)

theorem SameJobs.of_perm {xs ys : List Job} (h : xs.Perm ys) : SameJobs xs ys := h.map _

theorem SameJobs.symm {xs ys : List Job} (h : SameJobs xs ys) : SameJobs ys xs := List.Perm.symm h

theorem SameJobs.trans {xs ys zs : List Job} (h : SameJobs xs ys) (k : SameJobs ys zs) : SameJobs xs zs :=
  List.Perm.trans h k

theorem SameJobs.append_left {xs ys : List Job} (zs : List Job) (h : SameJobs xs ys) :
    SameJobs (zs ++ xs) (zs ++ ys) := by
  unfold SameJobs
  rw [List.map_append, List.map_append]
  exact List.Perm.append_left _ h

theorem countP_bare {p : Job → Bool} (hp : ∀ j : Job, p j.bare = p j) (xs : List Job) :
    (xs.map Job.bare).countP p = xs.countP p := by
  rw [List.countP_map]
  exact congrArg (fun f => xs.countP f) (funext hp)

theorem SameJobs.countP {xs ys : List Job} (h : SameJobs xs ys) {p : Job → Bool} (hp : ∀ j : Job, p j.bare = p j) :
    xs.countP p = ys.countP p := by
  rw [← countP_bare hp xs, ← countP_bare hp ys]
  exact List.Perm.countP_eq p h

theorem SameJobs.forall {xs ys : List Job} (h : SameJobs xs ys) {Q : Job → Prop} (hQ : ∀ j : Job, Q j.bare ↔ Q j)
    (hx : ∀ j ∈ xs, Q j) : ∀ j ∈ ys, Q j := by
  intro j hj
  obtain ⟨k, hk, e⟩ := List.mem_map.mp (List.Perm.mem_iff h |>.mpr (List.mem_map_of_mem hj))
  rw [← hQ, ← e, hQ]
  exact hx k hk

/-! ### The ops table up to its flags -/

/-- An operation without what the issue and the end of its jobs change: whether it has started, and job outstanding. -/
def Operation.plan (o : Operation) : Operation := { o with started := false, outstanding := false }

/-- Two engines hold the same operations, up to the flags of their jobs. -/
def OpEngine.SamePlans (e e' : OpEngine) : Prop :=
  e'.table.map Operation.plan = e.table.map Operation.plan ∧ e'.nextId = e.nextId

/-- The bounds of the operations table, its ids, its current entries and its tallies (R123, R124, R133). -/
def OpEngine.Sound (e : OpEngine) : Prop := e.Fits ∧ e.CurrentPending ∧ e.TalliesFit

namespace OpEngine

variable {e e' e'' : OpEngine}

theorem SamePlans.refl (e : OpEngine) : e.SamePlans e := ⟨rfl, rfl⟩

theorem SamePlans.trans (h : e.SamePlans e') (k : e'.SamePlans e'') : e.SamePlans e'' :=
  ⟨k.1.trans h.1, k.2.trans h.2⟩

/-- What is read from the plans alone is the same. -/
theorem SamePlans.map_eq {α : Type} (h : e.SamePlans e') (f : Operation → α) (hf : ∀ o : Operation, f o.plan = f o) :
    e'.table.map f = e.table.map f := by
  have through (xs : List Operation) : xs.map f = (xs.map Operation.plan).map f := by
    rw [List.map_map]
    exact List.map_congr_left fun o _ => (hf o).symm
  rw [through, through e.table, h.1]

/-- Each operation of the one engine stands in the other with the same plan. -/
theorem SamePlans.exists_plan (h : e.SamePlans e') {o : Operation} (ho : o ∈ e'.table) :
    ∃ p ∈ e.table, p.plan = o.plan := by
  have := List.mem_map_of_mem (f := Operation.plan) ho
  rw [h.1] at this
  exact List.mem_map.mp this

theorem SamePlans.symm (h : e.SamePlans e') : e'.SamePlans e := ⟨h.1.symm, h.2.symm⟩

theorem plan_eq {o p : Operation} (h : p.plan = o.plan) :
    p.opId = o.opId ∧ p.kind = o.kind ∧ p.samples = o.samples ∧ p.entries = o.entries ∧ p.current = o.current := by
  simp only [Operation.plan, Operation.mk.injEq, and_true] at h
  exact h

theorem SamePlans.calibrations (h : e.SamePlans e') (c : ChanId) : e'.calibrations c = e.calibrations c := by
  have through (x : OpEngine) : x.calibrations c =
      ((x.table.map fun o => (o.kind, o.entries)).filter (fun y => y.1 == .calibrate)
        |>.map fun y => y.2.countP fun z => z.isPending && z.channel == c).sum := by
    unfold OpEngine.calibrations
    rw [List.filter_map, List.map_map]
    rfl
  rw [through, through e, h.map_eq _ fun _ => rfl]

theorem SamePlans.sound (h : e.SamePlans e') (hs : e.Sound) : e'.Sound := by
  obtain ⟨⟨length, nodup, ids, low, high⟩, current, tallies⟩ := hs
  have hids : e'.table.map Operation.opId = e.table.map Operation.opId := h.map_eq _ fun _ => rfl
  refine ⟨⟨?_, ?_, fun o ho => ?_, ?_, ?_⟩, fun o ho => ?_, fun o ho => ?_⟩
  · have := congrArg List.length hids
    simp only [List.length_map] at this
    rwa [this]
  · rwa [hids]
  · obtain ⟨p, hp, same⟩ := h.exists_plan ho
    rw [← (plan_eq same).1]
    exact ids p hp
  · rwa [h.2]
  · rwa [h.2]
  · obtain ⟨p, hp, same⟩ := h.exists_plan ho
    obtain ⟨-, -, -, entries, index⟩ := plan_eq same
    rw [← entries, ← index]
    exact current p hp
  · obtain ⟨p, hp, same⟩ := h.exists_plan ho
    rw [show o.fits = o.plan.fits from rfl, ← same]
    exact tallies p hp

/-- In a table with distinct ids an id names one operation. -/
theorem Fits.unique (h : e.Fits) {o p : Operation} (ho : o ∈ e.table) (hp : p ∈ e.table) (id : o.opId = p.opId) :
    o = p :=
  List.inj_on_of_nodup_map h.2.1 ho hp id

theorem Fits.find_eq (h : e.Fits) {o : Operation} (ho : o ∈ e.table) : e.find o.opId = some o := by
  unfold OpEngine.find
  cases hf : e.table.find? (fun p => p.opId == o.opId) with
  | none =>
    rw [List.find?_eq_none] at hf
    exact absurd (beq_self_eq_true o.opId) (hf o ho)
  | some p =>
    have id : p.opId = o.opId := by simpa using List.find?_some hf
    rw [h.unique (List.mem_of_find?_eq_some hf) ho id]

theorem find_mem {id : Nat} {o : Operation} (h : e.find id = some o) : o ∈ e.table ∧ o.opId = id :=
  ⟨List.mem_of_find?_eq_some h, by simpa using List.find?_some h⟩

/-- What stands in the table after an operation has been replaced. -/
theorem mem_update {o x : Operation} (present : ∃ p ∈ e.table, p.opId = o.opId) :
    x ∈ (e.update o).table ↔ x = o ∨ x ∈ e.table ∧ x.opId ≠ o.opId := by
  simp only [OpEngine.update, List.mem_map]
  constructor
  · rintro ⟨p, hp, rfl⟩
    by_cases id : p.opId = o.opId
    · exact .inl (by simp [id])
    · exact .inr (by simpa [id] using hp)
  · rintro (rfl | ⟨hx, id⟩)
    · obtain ⟨p, hp, id⟩ := present
      exact ⟨p, hp, by simp [id]⟩
    · exact ⟨x, hx, by simp [id]⟩

/-- A replacement keeps what the new operation has in common with the old one. -/
theorem Fits.map_update {α : Type} (h : e.Fits) {o o' : Operation} (ho : o ∈ e.table) (id : o'.opId = o.opId)
    (f : Operation → α) (hf : f o' = f o) : (e.update o').table.map f = e.table.map f := by
  simp only [OpEngine.update, List.map_map]
  refine List.map_congr_left fun p hp => ?_
  by_cases same : p.opId = o'.opId
  · have known : p = o := h.unique hp ho (same.trans id)
    subst known
    simp [id, hf]
  · simp [same]

theorem Fits.samePlans_update (h : e.Fits) {o o' : Operation} (ho : o ∈ e.table) (plan : o'.plan = o.plan) :
    e.SamePlans (e.update o') :=
  ⟨h.map_update ho (plan_eq plan).1 _ plan, rfl⟩

end OpEngine

/-! ### The jobs of the operations (R123, R128, R129) -/

/-- Each operation has its one job among the jobs while its job is outstanding, and none otherwise; every operation job
samples the current entry of an operation. -/
def OpJobs (e : OpEngine) (jobs : List Job) : Prop :=
  (∀ o ∈ e.table, jobs.countP (Job.ofOp o.opId) = o.outstanding.toNat) ∧
    ∀ j ∈ jobs, j.isOp = true → ∃ o ∈ e.table, j.samples o = true

theorem Job.isOp_iff (j : Job) : j.isOp = true ↔ ∃ id entry, j.origin = .op id entry := by
  unfold Job.isOp Job.isScan
  cases j.origin <;> simp

theorem Job.isScan_iff (j : Job) : j.isScan = true ↔ ∃ entry round, j.origin = .scan entry round := by
  unfold Job.isScan
  cases j.origin <;> simp

theorem Job.ofOp_iff (id : Nat) (j : Job) : j.ofOp id = true ↔ ∃ entry, j.origin = .op id entry := by
  unfold Job.ofOp
  cases j.origin <;> simp

/-- The operation whose current entry a job samples. -/
theorem Job.samples_iff (o : Operation) (j : Job) :
    j.samples o = true ↔
      j.origin = .op o.opId o.current ∧ ∃ e, o.currentEntry = some e ∧ e.channel = j.channel := by
  unfold Job.samples
  cases o.currentEntry <;> simp

theorem OpJobs.of_same {e : OpEngine} {xs ys : List Job} (h : OpJobs e xs) (same : SameJobs xs ys) : OpJobs e ys :=
  ⟨fun o ho => (same.countP fun _ => rfl).symm.trans (h.1 o ho), same.forall (fun _ => Iff.rfl) h.2⟩

/-- A scan job is no business of the operations. -/
theorem OpJobs.cons_scan {e : OpEngine} {j : Job} (scan : j.isScan = true) (xs : List Job) :
    OpJobs e (j :: xs) ↔ OpJobs e xs := by
  have none (id : Nat) : ¬ j.ofOp id = true := by
    rw [Job.ofOp_iff]
    rintro ⟨entry, ho⟩
    rw [Job.isScan, ho] at scan
    cases scan
  have notOp : j.isOp = false := by simp [Job.isOp, scan]
  unfold OpJobs
  simp only [List.countP_cons_of_neg (none _), List.forall_mem_cons, notOp, Bool.false_eq_true, false_imp_iff, true_and]

/-- The operation that an operation job samples; no other job samples it (R128, R129). -/
theorem OpJobs.owner {e : OpEngine} {j : Job} {xs : List Job} (h : OpJobs e (j :: xs)) (op : j.isOp = true) :
    ∃ o ∈ e.table, j.samples o = true ∧ o.outstanding = true ∧ xs.countP (Job.ofOp o.opId) = 0 := by
  obtain ⟨o, ho, hs⟩ := h.2 j List.mem_cons_self op
  have own : j.ofOp o.opId = true := (Job.ofOp_iff _ _).mpr ⟨_, ((Job.samples_iff o j).mp hs).1⟩
  have count := h.1 o ho
  rw [List.countP_cons_of_pos own] at count
  cases hb : o.outstanding with
  | false => simp [hb] at count
  | true => exact ⟨o, ho, hs, hb, by simpa [hb] using count⟩

/-- A job of another operation keeps its owner when one operation is replaced or removed. -/
theorem OpJobs.samples_other {id : Nat} {xs : List Job} (none : xs.countP (Job.ofOp id) = 0) {j : Job} (hj : j ∈ xs)
    {o : Operation} (hs : j.samples o = true) : o.opId ≠ id := by
  rintro rfl
  rw [List.countP_eq_zero] at none
  exact none j hj ((Job.ofOp_iff _ _).mpr ⟨_, ((Job.samples_iff o j).mp hs).1⟩)

/-- The other operations and jobs, once the job of one operation is set apart. -/
theorem OpJobs.others {e : OpEngine} {j : Job} {xs : List Job} (h : OpJobs e (j :: xs)) {id entry : Nat}
    (ho : j.origin = .op id entry) :
    (∀ p ∈ e.table, p.opId ≠ id → xs.countP (Job.ofOp p.opId) = p.outstanding.toNat) ∧
      ∀ k ∈ xs, k.isOp = true → ∃ p ∈ e.table, k.samples p = true := by
  refine ⟨fun p hp other => ?_, fun k hk => h.2 k (List.mem_cons_of_mem _ hk)⟩
  have notOwn : ¬ j.ofOp p.opId = true := by
    rw [Job.ofOp_iff, ho]
    rintro ⟨_, e⟩
    exact other (Origin.op.inj e).1.symm
  have count := h.1 p hp
  rwa [List.countP_cons_of_neg notOwn] at count

/-- An operation without a job is replaced by one without a job outstanding. -/
theorem OpJobs.update {e : OpEngine} {xs : List Job} {o o' : Operation} (ho : o ∈ e.table)
    (id : o'.opId = o.opId) (idle : o'.outstanding = false) (none : xs.countP (Job.ofOp o.opId) = 0)
    (counts : ∀ p ∈ e.table, p.opId ≠ o.opId → xs.countP (Job.ofOp p.opId) = p.outstanding.toNat)
    (owned : ∀ j ∈ xs, j.isOp = true → ∃ p ∈ e.table, j.samples p = true) : OpJobs (e.update o') xs := by
  have present : ∃ p ∈ e.table, p.opId = o'.opId := ⟨o, ho, id.symm⟩
  refine ⟨fun p hp => ?_, fun j hj op => ?_⟩
  · rcases (OpEngine.mem_update present).mp hp with rfl | ⟨hp, other⟩
    · rw [id, none, idle]
      rfl
    · exact counts p hp (id ▸ other)
  · obtain ⟨p, hp, hs⟩ := owned j hj op
    exact ⟨p, (OpEngine.mem_update present).mpr (.inr ⟨hp, id ▸ OpJobs.samples_other none hj hs⟩), hs⟩

/-! ### The jobs of the sequencer (R69, R70) -/

/-- Every scan job belongs to the round in progress, or is astray while no round is; every outstanding entry stands
before the issue position and has exactly one job. -/
def ScanJobs (astray : Job → Bool) (q : Sequencer) (jobs : List Job) : Prop :=
  (∀ j ∈ jobs, q.owns j = true ∨ astray j = true ∧ q.inRound = false) ∧ q.outstanding.Nodup ∧
    ∀ e ∈ q.outstanding, e < q.issuePos ∧ jobs.countP (fun j => j.origin == .scan e q.round) = 1

/-- No job is astray. -/
def noJob : Job → Bool := fun _ => false

theorem ScanJobs.owns {q : Sequencer} {jobs : List Job} (h : ScanJobs noJob q jobs) : ∀ j ∈ jobs, q.owns j = true :=
  fun j hj => (h.1 j hj).resolve_right fun bad => by cases bad.1

theorem ScanJobs.of_same {astray : Job → Bool} (bare : ∀ j : Job, astray j.bare = astray j) {q : Sequencer}
    {xs ys : List Job} (h : ScanJobs astray q xs) (same : SameJobs xs ys) : ScanJobs astray q ys :=
  ⟨same.forall (fun j => by rw [Sequencer.owns_bare, bare]) h.1, h.2.1,
    fun e he => ⟨(h.2.2 e he).1, (same.countP fun _ => rfl).symm.trans (h.2.2 e he).2⟩⟩

/-- When the sequencer owns a scan job. -/
theorem Sequencer.owns_scan {q : Sequencer} {j : Job} {entry round : Nat} (ho : j.origin = .scan entry round) :
    q.owns j = true ↔ q.inRound = true ∧ round = q.round ∧ entry ∈ q.outstanding ∧
      ∃ e, q.list[entry]? = some e ∧ e.channel = j.channel := by
  unfold Sequencer.owns
  rw [ho]
  simp only [Bool.and_eq_true, beq_iff_eq, List.contains_iff_mem, and_assoc, Option.any_eq_true]

theorem Sequencer.owns_op {q : Sequencer} {j : Job} (op : j.isOp = true) : q.owns j = true := by
  obtain ⟨id, entry, ho⟩ := (Job.isOp_iff j).mp op
  unfold Sequencer.owns
  rw [ho]

theorem Job.isOp_of_not_isScan {j : Job} (h : j.isScan = false) : j.isOp = true := by simp [Job.isOp, h]

/-- With no entry outstanding every job that is owned is an operation's. -/
theorem Sequencer.isOp_of_owns {q : Sequencer} {j : Job} (h : q.owns j = true) (none : q.outstanding = []) :
    j.isOp = true := by
  cases hs : j.isScan with
  | false => exact Job.isOp_of_not_isScan hs
  | true =>
    obtain ⟨entry, round, ho⟩ := (Job.isScan_iff j).mp hs
    obtain ⟨-, -, mem, -⟩ := (Sequencer.owns_scan ho).mp h
    rw [none] at mem
    cases mem

/-- Jobs that are all operations' agree with a sequencer that has no entry outstanding. -/
theorem ScanJobs.of_ops {astray : Job → Bool} {q : Sequencer} {jobs : List Job} (ops : ∀ j ∈ jobs, j.isOp = true)
    (none : q.outstanding = []) : ScanJobs astray q jobs := by
  refine ⟨fun j hj => .inl (Sequencer.owns_op (ops j hj)), none ▸ List.nodup_nil, fun e he => ?_⟩
  rw [none] at he
  cases he

/-- An operation job is no business of the sequencer. -/
theorem ScanJobs.cons_op {astray : Job → Bool} {q : Sequencer} {j : Job} (op : j.isOp = true) (xs : List Job) :
    ScanJobs astray q (j :: xs) ↔ ScanJobs astray q xs := by
  have none (e : Nat) : ¬ (j.origin == Origin.scan e q.round) = true := by
    obtain ⟨id, entry, ho⟩ := (Job.isOp_iff j).mp op
    simp [ho]
  have count (e : Nat) : (j :: xs).countP (fun j => j.origin == .scan e q.round) =
      xs.countP fun j => j.origin == .scan e q.round := List.countP_cons_of_neg (none e)
  unfold ScanJobs
  simp only [List.forall_mem_cons, Sequencer.owns_op op, true_or, true_and, count]

/-- The sequencer's part is the same where the list, the round and its outstanding entries are. -/
theorem ScanJobs.congr {astray : Job → Bool} {q q' : Sequencer} {jobs : List Job} (h : ScanJobs astray q jobs)
    (inRound : q'.inRound = q.inRound) (round : q'.round = q.round) (outstanding : q'.outstanding = q.outstanding)
    (list : q'.list = q.list) (pos : q.issuePos ≤ q'.issuePos) : ScanJobs astray q' jobs := by
  have owns (j : Job) : q'.owns j = q.owns j := by
    unfold Sequencer.owns
    rw [inRound, round, outstanding, list]
  refine ⟨fun j hj => ?_, by rw [outstanding]; exact h.2.1, fun e he => ?_⟩
  · rw [owns, inRound]
    exact h.1 j hj
  · rw [outstanding] at he
    rw [round]
    exact ⟨(h.2.2 e he).1.trans_le pos, (h.2.2 e he).2⟩

/-! ### The books -/

/-- Every record that waits makes a legal frame (R157). -/
def NoticeQueue.Legal (q : NoticeQueue) : Prop := ∀ r ∈ q.records, r.payload.length ≤ 128

/-- The producers' books agree with the jobs, those of `extra` counted in, which stand on no unit and in no queue
because their origins are still to be told of their ends; scan jobs that are `astray` may be left over between rounds.
-/
structure State.Coherent (extra : List Job) (astray : Job → Bool) (s : State) : Prop where
  seqSound : s.seq.Sound
  opsSound : s.ops.Sound
  opJobs : OpJobs s.ops (extra ++ s.jobs)
  scanJobs : ScanJobs astray s.seq (extra ++ s.jobs)
  watchSound : s.WatchSound
  legal : s.notices.Legal

/-- The books of a sound state. -/
theorem State.Sound.coherent {s : State} (h : s.Sound) : s.Coherent [] noJob where
  seqSound := h.sequencerSound
  opsSound := ⟨h.opsFit, h.currentPending, h.talliesFit⟩
  opJobs := ⟨h.opJobsSound.1, fun j hj op => List.any_eq_true.mp (h.opJobsSound.2 j hj op)⟩
  scanJobs := ⟨fun j hj => .inl (h.scanJobsSound.1 j hj), h.scanJobsSound.2⟩
  watchSound := h.watchSound
  legal := h.framesLegal.1

/-! ### Legal records (R157, R187) -/

theorem NoticeQueue.legal_arrive {q : NoticeQueue} (h : q.Legal) {r : Record} (hr : r.payload.length ≤ 128) :
    (q.arrive r).1.Legal := by
  have appended (rs : List Record) (hrs : ∀ x ∈ rs, x.payload.length ≤ 128) :
      ∀ x ∈ rs ++ [r], x.payload.length ≤ 128 := by
    intro x hx
    rcases List.mem_append.mp hx with hx | hx
    · exact hrs x hx
    · rw [List.mem_singleton.mp hx]
      exact hr
  have taken (rs rest : List Record) (hw : withoutOldestResult rs = some rest) : ∀ x ∈ rest, x ∈ rs := by
    induction rs generalizing rest with
    | nil => cases hw
    | cons y ys ih =>
      unfold withoutOldestResult at hw
      split at hw
      · cases hw
        exact fun x hx => List.mem_cons_of_mem _ hx
      · obtain ⟨rest', h', rfl⟩ := Option.map_eq_some_iff.mp hw
        exact fun x hx => (List.mem_cons.mp hx).elim (fun e => e ▸ List.mem_cons_self)
          fun hx => List.mem_cons_of_mem _ (ih rest' h' x hx)
  obtain ⟨rs, hc, e⟩ | ⟨-, -, e⟩ | ⟨-, -, -, e⟩ | ⟨rest, -, -, -, hw, e⟩ | ⟨-, -, -, -, e⟩ :=
    NoticeQueue.arrive_cases r q <;> rw [e]
  · cases r with
    | hello | state | opDone | scan => cases hc
    | result new =>
      obtain ⟨older, old, younger, hq, -, rfl⟩ := coalesce_some hc
      intro x hx
      rcases List.mem_append.mp hx with hx | hx
      · exact h x (hq ▸ List.mem_append_left _ hx)
      · rcases List.mem_cons.mp hx with rfl | hx
        · exact hr
        · exact h x (hq ▸ List.mem_append_right _ (List.mem_cons_of_mem _ hx))
  · exact appended q.records h
  · exact h
  · exact appended rest fun x hx => h x (taken _ _ hw x hx)
  · exact h

theorem signedLE_length (v : Int) : (signedLE v).length = 4 := bytesLE_length _ _

theorem Record.state_legal (r : StateRecord) : (Record.state r).payload.length ≤ 128 := by
  simp [Record.payload, optionalLE, optionalSignedLE, signedLE_length]

theorem Record.result_legal (r : ResultRecord) : (Record.result r).payload.length ≤ 128 := by
  simp [Record.payload, optionalLE, optionalSignedLE, signedLE_length]

theorem Record.scan_legal (e : ScanEvent) (round : Nat) : (Record.scan e round).payload.length ≤ 128 := by
  simp [Record.payload]

/-- An OP_DONE record of at most 8 entries makes a legal frame. -/
theorem Record.opDone_legal {r : OpDoneRecord} (h : r.entries.length ≤ 8) :
    (Record.opDone r).payload.length ≤ 128 := by
  have entry (e : OpDoneEntry) : e.bytes.length = 13 := by simp [OpDoneEntry.bytes, optionalLE]
  have all (es : List OpDoneEntry) : ((es.map OpDoneEntry.bytes).flatten).length = 13 * es.length := by
    induction es with
    | nil => rfl
    | cons e es ih =>
      simp only [List.map_cons, List.flatten_cons, List.length_append, entry, ih, List.length_cons]
      omega
  simp only [Record.payload, List.length_append, all, List.length_cons, List.length_nil]
  omega

end Sys2Proof.Machine
end

section
/-! The producers of the job queue keep the books: each of their actions, and so a drive (R43, R69, R71, R128). -/

namespace Sys2Proof.Machine

/-! ### Grant passes and issues -/

/-- Only CU0 is busy and only OC0 held (R51). -/
def Resources.WatchOnly (res : Resources) : Prop :=
  (∀ u : UnitId, u ≠ 0 → res.units[u] = none) ∧ ∀ c : CellId, c ≠ 0 → res.cells[c] = none

theorem Resources.WatchOnly.grant {res : Resources} (h : res.WatchOnly) {j : Job} {u : UnitId} {cell : Option CellId}
    (offered : res.offer true j = some (u, cell)) : (res.grant j u cell).WatchOnly := by
  obtain ⟨unit, -, osc, ext⟩ := Resources.offer_some offered
  refine ⟨fun v hv => ?_, fun c hc => ?_⟩
  · rw [Resources.grant_unit, if_neg ((Resources.freeUnit_some unit).2 rfl ▸ hv.symm)]
    exact h.1 v hv
  · rw [Resources.grant_cell, if_neg ?_]
    · exact h.2 c hc
    · cases hs : j.snapshot.source.isOsc with
      | false => simp [ext hs]
      | true =>
        obtain ⟨d, free, rfl⟩ := osc hs
        simpa [(Resources.freeCell_some free).2 rfl] using hc.symm

theorem State.WatchSound.grantPass {s : State} (h : s.WatchSound) : s.grantPass.WatchSound := by
  intro watch
  have watch : s.seq.mode = .watch := watch
  obtain ⟨table, only⟩ := h watch
  refine ⟨table, ?_⟩
  have flag : (s.seq.mode == SeqMode.watch) = true := by simp [watch]
  show (grantWalk (s.seq.mode == SeqMode.watch) s.queue s.res).2.WatchOnly
  rw [flag]
  exact grantWalk_keeps Resources.WatchOnly _ (fun _ _ _ _ _ hres offered => hres.grant offered) _ only

namespace State.Coherent

variable {extra : List Job} {astray : Job → Bool} {s : State}

theorem grantPass (bare : ∀ j : Job, astray j.bare = astray j) (h : s.Coherent extra astray) :
    s.grantPass.Coherent extra astray where
  seqSound := h.seqSound
  opsSound := h.opsSound
  opJobs := h.opJobs.of_same (SameJobs.append_left extra s.grantPass_jobs.symm)
  scanJobs := h.scanJobs.of_same bare (SameJobs.append_left extra s.grantPass_jobs.symm)
  watchSound := h.watchSound.grantPass
  legal := h.legal

/-- A job that the books count already enters the queue. -/
theorem enterJob {o : Origin} {c : ChanId} (h : s.Coherent [s.newJob o c] noJob) :
    (s.enterJob o c).Coherent [] noJob where
  seqSound := h.seqSound
  opsSound := h.opsSound
  opJobs := h.opJobs.of_same (s.enterJob_jobs o c).symm
  scanJobs := h.scanJobs.of_same (fun _ => rfl) (s.enterJob_jobs o c).symm
  watchSound := State.WatchSound.grantPass (s := { s with queue := s.queue ++ [s.newJob o c] }) h.watchSound
  legal := h.legal

theorem addRecord (h : s.Coherent extra astray) {r : Record} (hr : r.payload.length ≤ 128) :
    (s.addRecord r).Coherent extra astray :=
  { h with legal := NoticeQueue.legal_arrive h.legal hr }

/-! ### The actions of the sequencer (R69, R71) -/

/-- With no entry outstanding every job that the books know is an operation's. -/
theorem allOps (h : s.Coherent extra noJob) (none : s.seq.outstanding = []) : ∀ j ∈ extra ++ s.jobs, j.isOp = true :=
  fun j hj => Sequencer.isOp_of_owns (h.scanJobs.owns j hj) none

end State.Coherent

theorem Sequencer.roundOver_iff (q : Sequencer) :
    q.roundOver = true ↔ q.inRound = true ∧ q.list.length ≤ q.issuePos ∧ q.outstanding = [] := by
  simp [Sequencer.roundOver, and_assoc]

theorem Sequencer.atPosition_some {q : Sequencer} {e : ScanEntry} (h : q.atPosition = some e) :
    q.inRound = true ∧ q.list[q.issuePos]? = some e ∧ q.issuePos < q.list.length := by
  unfold Sequencer.atPosition at h
  split at h
  · next hr => exact ⟨hr, h, (List.getElem?_eq_some_iff.mp h).1⟩
  · cases h

/-- The entry that the sequencer can issue stands at the issue position. -/
theorem State.nextScan_at {s : State} {e : ScanEntry} (h : s.nextScan = some e) : s.seq.atPosition = some e := by
  unfold State.nextScan at h
  split at h
  · cases h
  · next d hd =>
    split at h
    · rw [hd, h]
    · cases h

/-- The sequencer passes over an entry that stands at the issue position. -/
theorem State.skipDue_at {s : State} {arrived : Bool} (h : s.skipDue arrived = true) :
    ∃ e, s.seq.atPosition = some e := by
  unfold State.skipDue at h
  split at h
  · cases h
  · next e he => exact ⟨e, he⟩

theorem State.completeRound_ops (s : State) : s.completeRound.ops = s.ops := by
  unfold State.completeRound
  split
  · rfl
  · split <;> rfl
  · split <;> rfl
  · rfl

/-- A job that the sequencer owns is owned when more entries are outstanding. -/
theorem Sequencer.owns_more {q q' : Sequencer} {j : Job} (h : q.owns j = true) (inRound : q'.inRound = q.inRound)
    (round : q'.round = q.round) (list : q'.list = q.list) (more : ∀ i ∈ q.outstanding, i ∈ q'.outstanding) :
    q'.owns j = true := by
  cases hs : j.isScan with
  | false => exact Sequencer.owns_op (Job.isOp_of_not_isScan hs)
  | true =>
    obtain ⟨entry, n, ho⟩ := (Job.isScan_iff j).mp hs
    obtain ⟨hr, hn, mem, named⟩ := (Sequencer.owns_scan ho).mp h
    exact (Sequencer.owns_scan ho).mpr ⟨inRound ▸ hr, round ▸ hn, more _ mem, list ▸ named⟩

/-- A round that begins is sound in every mode but STOPPED. -/
theorem State.roundBegin_seqSound {s : State} (h : s.seq.Sound) (mode : s.seq.mode ≠ .stopped) :
    s.roundBegin.seq.Sound := by
  obtain ⟨-, -, timer, -, overruns, length, dividers, -⟩ := h
  refine ⟨fun h => ?_, fun h => absurd h mode, timer, ?_, overruns, length, dividers, Nat.zero_le _⟩
  · cases h
  · exact Nat.le_of_lt_succ (Nat.mod_lt _ (by decide))

namespace State.Coherent

variable {extra : List Job} {astray : Job → Bool} {s : State}

/-- A new sequencer agrees with jobs that are all operations'. -/
theorem setSeq (h : s.Coherent extra astray) (ops : ∀ j ∈ extra ++ s.jobs, j.isOp = true) {q : Sequencer}
    (sound : q.Sound) (none : q.outstanding = [])
    (watch : q.mode = .watch → s.ops.table = [] ∧ s.res.WatchOnly) :
    State.Coherent extra noJob { s with seq := q } where
  seqSound := sound
  opsSound := h.opsSound
  opJobs := h.opJobs
  scanJobs := ScanJobs.of_ops ops none
  watchSound hw := watch hw
  legal := h.legal

theorem roundBegin (h : s.Coherent extra astray) (ops : ∀ j ∈ extra ++ s.jobs, j.isOp = true)
    (mode : s.seq.mode ≠ .stopped) : s.roundBegin.Coherent extra noJob :=
  h.setSeq ops (State.roundBegin_seqSound h.seqSound mode) rfl h.watchSound

theorem completeRound (h : s.Coherent extra noJob) (ended : s.seq.roundOver = true) :
    s.completeRound.Coherent extra noJob := by
  obtain ⟨inRound, -, none⟩ := (Sequencer.roundOver_iff _).mp ended
  have ops := h.allOps none
  obtain ⟨-, stopped, timer, round, overruns, length, dividers, -⟩ := h.seqSound
  have between (q : Sequencer) (mode : q.mode = s.seq.mode ∨ q.mode = .stopped)
      (timed : q.timer.isSome = (q.mode == .running || q.mode == .watch)) (hr : q.round = s.seq.round)
      (ho : q.overruns = s.seq.overruns) (hl : q.list = s.seq.list) (hi : q.inRound = false) (hp : q.issuePos = 0)
      (hn : q.outstanding = []) : State.Coherent extra noJob { s with seq := q } := by
    refine h.setSeq ops ⟨fun _ => ⟨hp, hn⟩, fun _ => hi, timed, hr ▸ round, ho ▸ overruns, hl ▸ length,
      hl ▸ dividers, hp ▸ Nat.zero_le _⟩ hn fun hw => ?_
    rcases mode with mode | mode
    · exact h.watchSound (mode ▸ hw)
    · rw [mode] at hw
      cases hw
  unfold State.completeRound
  split
  · next hm => exact absurd (stopped hm) (by simp [inRound])
  · next hm =>
    dsimp only
    split
    · refine roundBegin (between _ (.inl rfl) timer rfl rfl rfl rfl rfl none) ops ?_
      show s.seq.mode ≠ .stopped
      simp [hm]
    · exact between _ (.inl rfl) timer rfl rfl rfl rfl rfl none
  · next hm =>
    dsimp only
    split
    · refine roundBegin (between _ (.inl rfl) timer rfl rfl rfl rfl rfl none) ops ?_
      show s.seq.mode ≠ .stopped
      simp [hm]
    · exact between _ (.inl rfl) timer rfl rfl rfl rfl rfl none
  · next hm =>
    refine addRecord ?_ (Record.scan_legal _ _)
    exact between _ (.inr rfl) (timer.trans (by rw [hm]; rfl)) rfl rfl rfl rfl rfl none

theorem passEntry (h : s.Coherent extra astray) {e : ScanEntry} (at_ : s.seq.atPosition = some e) :
    s.passEntry.Coherent extra astray := by
  obtain ⟨inRound, -, inside⟩ := Sequencer.atPosition_some at_
  obtain ⟨-, stopped, timer, round, overruns, length, dividers, -⟩ := h.seqSound
  exact { h with
    seqSound := ⟨fun between => absurd (inRound.symm.trans between) (by decide), stopped, timer, round,
      overruns, length, dividers, inside⟩
    scanJobs := h.scanJobs.congr rfl rfl rfl rfl (Nat.le_succ _) }

theorem issueEntry (h : s.Coherent [] noJob) {e : ScanEntry} (next : s.nextScan = some e) :
    (s.issueEntry e).Coherent [] noJob := by
  obtain ⟨inRound, entry, inside⟩ := Sequencer.atPosition_some (State.nextScan_at next)
  obtain ⟨-, stopped, timer, round, overruns, length, dividers, -⟩ := h.seqSound
  obtain ⟨owns, distinct, counts⟩ := h.scanJobs
  refine enterJob (s := { s with seq := { s.seq with
    outstanding := s.seq.outstanding ++ [s.seq.issuePos], issuePos := s.seq.issuePos + 1 } }) ?_
  have fresh : s.seq.issuePos ∉ s.seq.outstanding := fun mem => Nat.lt_irrefl _ (counts _ mem).1
  refine { h with
    seqSound := ⟨fun between => absurd (inRound.symm.trans between) (by decide), stopped, timer, round, overruns,
      length, dividers, inside⟩
    opJobs := (OpJobs.cons_scan rfl _).mpr h.opJobs
    scanJobs := ⟨fun j hj => .inl ?_, ?_, fun i hi => ?_⟩ }
  · rcases List.mem_cons.mp hj with rfl | hj
    · rw [Sequencer.owns_scan rfl]
      exact ⟨inRound, rfl, List.mem_append_right _ (List.mem_singleton_self _), e, entry, rfl⟩
    · exact Sequencer.owns_more (h.scanJobs.owns j hj) rfl rfl rfl fun i hi => List.mem_append_left _ hi
  · rw [List.nodup_append]
    exact ⟨distinct, List.nodup_singleton _, fun a ha b hb => by
      rw [List.mem_singleton.mp hb]
      exact fun same => fresh (same ▸ ha)⟩
  · rcases List.mem_append.mp hi with hi | hi
    · obtain ⟨before, one⟩ := counts i hi
      refine ⟨Nat.lt_succ_of_lt before, ?_⟩
      rw [List.singleton_append, List.countP_cons_of_neg ?_]
      · exact one
      · simpa [State.newJob] using Nat.ne_of_gt before
    · rw [List.mem_singleton.mp hi]
      refine ⟨Nat.lt_succ_self _, ?_⟩
      rw [List.singleton_append, List.countP_cons_of_pos (by simp [State.newJob]), Nat.succ_inj,
        List.countP_eq_zero]
      intro j hj same
      have owned := (Sequencer.owns_scan (eq_of_beq same)).mp (h.scanJobs.owns j hj)
      exact fresh owned.2.2.1

/-! ### The actions of the engine (R128, R129) -/

theorem issueSample (h : s.Coherent [] noJob) {o : Operation} (next : s.nextOperation = some o) :
    (s.issueSample o).Coherent [] noJob ∧ s.ops.SamePlans (s.issueSample o).ops := by
  obtain ⟨-, mem, needs⟩ := State.nextOperation_some next
  obtain ⟨idle, e, entry, -⟩ := o.needsJob_iff.mp needs
  obtain ⟨⟨fits, current, tallies⟩, counts, owned⟩ := And.intro h.opsSound h.opJobs
  have entry : o.currentEntry = some e := entry
  have same : s.ops.SamePlans (s.ops.update { o with outstanding := true, started := true }) :=
    fits.samePlans_update mem rfl
  have present : ∃ p ∈ s.ops.table, p.opId = Operation.opId { o with outstanding := true, started := true } :=
    ⟨o, mem, rfl⟩
  have free : s.jobs.countP (Job.ofOp o.opId) = 0 := by simpa [idle] using counts o mem
  unfold State.issueSample
  rw [entry]
  refine ⟨enterJob (s := { s with ops := s.ops.update { o with outstanding := true, started := true } }) ?_, same⟩
  refine { h with
    opsSound := same.sound h.opsSound
    opJobs := ⟨fun p hp => ?_, fun j hj op => ?_⟩
    scanJobs := (ScanJobs.cons_op rfl _).mpr h.scanJobs
    watchSound := fun watch => ?_ }
  · rw [List.singleton_append]
    rcases (OpEngine.mem_update present).mp hp with rfl | ⟨hp, other⟩
    · rw [List.countP_cons_of_pos (by simp [State.newJob, Job.ofOp])]
      exact congrArg (· + 1) free
    · rw [List.countP_cons_of_neg (by simpa [State.newJob, Job.ofOp] using Ne.symm other)]
      exact counts p hp
  · rcases List.mem_cons.mp hj with rfl | hj
    · exact ⟨_, (OpEngine.mem_update present).mpr (.inl rfl), (Job.samples_iff _ _).mpr ⟨rfl, e, entry, rfl⟩⟩
    · obtain ⟨p, hp, hs⟩ := owned j hj op
      exact ⟨p, (OpEngine.mem_update present).mpr (.inr ⟨hp, OpJobs.samples_other free hj hs⟩), hs⟩
  · have none := (h.watchSound watch).1
    rw [none] at mem
    cases mem

/-! ### The drive and the fill of the partition -/

theorem drive (h : s.Coherent [] noJob) : s.drive.Coherent [] noJob ∧ s.ops.SamePlans s.drive.ops :=
  State.driveFor_keeps (fun t => t.Coherent [] noJob ∧ s.ops.SamePlans t.ops)
    (fun t ht ended => ⟨ht.1.completeRound ended, t.completeRound_ops ▸ ht.2⟩)
    (fun _ _ ht due => by
      obtain ⟨e, at_⟩ := State.skipDue_at due
      exact ⟨ht.1.passEntry at_, ht.2⟩)
    (fun _ _ ht next => ⟨ht.1.issueEntry next, ht.2⟩)
    (fun _ _ ht next => ⟨(ht.1.issueSample next).1, ht.2.trans (ht.1.issueSample next).2⟩)
    (fun _ ht => ⟨{ ht.1 with }, ht.2⟩) _ _ s ⟨h, .refl _⟩

theorem fillFor (fuel : Nat) (h : s.Coherent [] noJob) :
    (s.fillFor fuel).Coherent [] noJob ∧ s.ops.SamePlans (s.fillFor fuel).ops := by
  induction fuel generalizing s with
  | zero => exact ⟨h, .refl _⟩
  | succ n ih =>
    unfold State.fillFor
    split
    · next next =>
      obtain ⟨issued, same⟩ := h.issueSample next
      exact ⟨(ih issued).1, same.trans (ih issued).2⟩
    · exact ⟨h, .refl _⟩

end State.Coherent

end Sys2Proof.Machine
end

section
/-! Rest: after a drive neither producer has anything to do, and after a grant pass no waiting job could be granted;
what leaves both as they are (R42, R43, R46, R69, R71, R128). -/

namespace Sys2Proof.Machine

/-! ### The producers' rest -/

/-- When an action is the producers' next one. -/
def ProducerStep.isNext (arrived : Bool) (s : State) : ProducerStep → Prop
  | .complete => s.seq.roundOver = true
  | .skip => s.skipDue arrived = true
  | .scan e => s.nextScan = some e
  | .op o => s.nextOperation = some o
  | .either e o => s.nextScan = some e ∧ s.nextOperation = some o
  | .rest => s.seq.roundOver = false ∧ s.skipDue arrived = false ∧ s.nextScan = none ∧ s.nextOperation = none

theorem State.producerStep_isNext {s : State} {arrived : Bool} {x : ProducerStep} (h : s.producerStep arrived = x) :
    x.isNext arrived s := by
  subst h
  unfold State.producerStep
  by_cases ended : s.seq.roundOver = true
  · rw [if_pos ended]
    exact ended
  · rw [if_neg ended]
    by_cases skips : s.skipDue arrived = true
    · rw [if_pos skips]
      exact skips
    · rw [if_neg skips]
      split
      · exact ⟨‹_›, ‹_›⟩
      · assumption
      · assumption
      · exact ⟨Bool.eq_false_iff.mpr ended, Bool.eq_false_iff.mpr skips, ‹_›, ‹_›⟩

theorem State.producersRest_iff (s : State) :
    s.ProducersRest ↔ s.seq.roundOver = false ∧ s.skipDue false = false ∧ s.nextScan = none ∧
      s.nextOperation = none := by
  refine ⟨State.producerStep_isNext, fun ⟨ended, stays, scan, op⟩ => ?_⟩
  simp [State.ProducersRest, State.producerStep, ended, stays, scan, op]

/-- The sequencer that has nothing to do on arriving at an entry has nothing to do there later. -/
theorem State.producersRest_of_arrived {s : State} {arrived : Bool} (h : s.producerStep arrived = .rest) :
    s.ProducersRest := by
  cases arrived with
  | false => exact h
  | true =>
    obtain ⟨ended, stays, issues⟩ := State.producerStep_isNext h
    refine s.producersRest_iff.mpr ⟨ended, ?_, issues⟩
    unfold State.skipDue at stays ⊢
    split
    · rfl
    · simp_all

/-- How many more actions the sequencer can have: the entries left of the round, its completion, and the round that a
held start begins. -/
def Sequencer.work (q : Sequencer) : Nat :=
  if q.inRound then (q.list.length - q.issuePos) + 1 + (if q.heldStart then q.list.length + 1 else 0) else 0

/-- How many more actions the producers can have. -/
def State.work (s : State) : Nat := s.seq.work + s.ops.table.countP Operation.needsJob

theorem State.completeRound_work {s : State} (ended : s.seq.roundOver = true) : s.completeRound.work < s.work := by
  obtain ⟨inRound, issued, -⟩ := (Sequencer.roundOver_iff _).mp ended
  unfold State.completeRound State.work
  have left : 0 < s.seq.work := by simp [Sequencer.work, inRound]
  have again (held : s.seq.heldStart = true) : s.seq.list.length + 1 < s.seq.work := by
    simp [Sequencer.work, inRound, held]
  split
  · exact Nat.add_lt_add_right left _
  · split
    · next held => exact Nat.add_lt_add_right (again held) _
    · exact Nat.add_lt_add_right left _
  · split
    · next held => exact Nat.add_lt_add_right (again held) _
    · exact Nat.add_lt_add_right left _
  · exact Nat.add_lt_add_right left _

theorem State.passEntry_work {s : State} {e : ScanEntry} (at_ : s.seq.atPosition = some e) :
    s.passEntry.work < s.work := by
  obtain ⟨inRound, -, inside⟩ := Sequencer.atPosition_some at_
  simp only [State.work, Sequencer.work, State.passEntry, inRound, if_true]
  omega

theorem State.issueEntry_work {s : State} {e : ScanEntry} (at_ : s.seq.atPosition = some e) (d : ScanEntry) :
    (s.issueEntry d).work < s.work :=
  State.passEntry_work at_

theorem State.issueSample_work {s : State} {o : Operation} (mem : o ∈ s.ops.table) (needs : o.needsJob = true) :
    (s.issueSample o).work < s.work := by
  obtain ⟨-, e, entry, -⟩ := o.needsJob_iff.mp needs
  have entry : o.currentEntry = some e := entry
  obtain ⟨older, younger, split⟩ := List.append_of_mem mem
  have fewer (xs : List Operation) : (xs.map fun p =>
      if p.opId == o.opId then { o with outstanding := true, started := true } else p).countP Operation.needsJob ≤
        xs.countP Operation.needsJob := by
    rw [List.countP_map]
    refine List.countP_mono_left fun p _ hp => ?_
    by_cases id : p.opId = o.opId
    · simp [id, Operation.needsJob] at hp
    · simpa [id] using hp
  unfold State.issueSample
  rw [entry]
  show s.seq.work + _ < s.seq.work + _
  simp only [State.enterJob_ops, OpEngine.update, split, List.map_append, List.map_cons, List.countP_append,
    List.countP_cons, needs, if_true, beq_self_eq_true]
  have own : Operation.needsJob { o with outstanding := true, started := true } = false := rfl
  have := fewer older
  have := fewer younger
  rw [own]
  simp only [Bool.false_eq_true, if_false]
  omega

theorem State.work_lt_driveFuel (s : State) : s.work < s.driveFuel := by
  have ops : s.ops.table.countP Operation.needsJob ≤ s.ops.table.length := List.countP_le_length
  unfold State.work Sequencer.work State.driveFuel
  split
  · split <;> omega
  · omega

theorem State.driveFor_rests {fuel : Nat} (arrived : Bool) {s : State} (enough : s.work < fuel) :
    (s.driveFor fuel arrived).ProducersRest := by
  induction fuel generalizing arrived s with
  | zero => exact absurd enough (Nat.not_lt_zero _)
  | succ n ih =>
    have next {t : State} (less : t.work < s.work) (a : Bool) : (t.driveFor n a).ProducersRest :=
      ih a (Nat.lt_of_lt_of_le less (Nat.le_of_lt_succ enough))
    unfold State.driveFor
    have scan {t : State} {e : ScanEntry} (he : t.nextScan = some e) : (t.issueEntry e).work < t.work :=
      State.issueEntry_work (State.nextScan_at he) e
    have op {t : State} {o : Operation} (ho : t.nextOperation = some o) : (t.issueSample o).work < t.work :=
      State.issueSample_work (State.nextOperation_some ho).2.1 (State.nextOperation_some ho).2.2
    cases hp : s.producerStep arrived with
    | rest => exact State.producersRest_of_arrived hp
    | complete => exact next (State.completeRound_work (State.producerStep_isNext hp)) true
    | skip =>
      obtain ⟨e, at_⟩ := State.skipDue_at (State.producerStep_isNext hp)
      exact next (State.passEntry_work at_) true
    | scan e => exact next (scan (State.producerStep_isNext hp)) true
    | op o => exact next (op (State.producerStep_isNext hp)) arrived
    | either e o =>
      obtain ⟨he, ho⟩ := State.producerStep_isNext hp
      dsimp only
      split
      · exact next (scan (t := s.countChoice) he) true
      · exact next (op (t := s.countChoice) ho) arrived

/-- After a drive neither producer has anything to do. -/
theorem State.drive_rests (s : State) : s.drive.ProducersRest := State.driveFor_rests _ s.work_lt_driveFuel

/-! ### The arbiter's rest -/

/-- The jobs that a pass leaves waiting are those it did not mark. -/
theorem raisePassCounts_length (marks : List (Job × Bool)) :
    (raisePassCounts marks).1.length = marks.countP fun x => !x.2 := by
  induction marks with
  | nil => rfl
  | cons x xs ih =>
    obtain ⟨j, granted⟩ := x
    unfold raisePassCounts
    cases granted with
    | true => simpa using ih
    | false =>
      simp only [Bool.false_eq_true, if_false]
      split <;> simp [ih]

/-- A state is at rest exactly when a walk over its queue marks no job. -/
theorem State.grantsRest_iff (s : State) :
    s.GrantsRest ↔ ∀ x ∈ (grantWalk (s.seq.mode == .watch) s.queue s.res).1, x.2 = false := by
  refine ⟨fun h => ?_, State.grantPass_idle⟩
  have queue : (raisePassCounts (grantWalk (s.seq.mode == .watch) s.queue s.res).1).1 = s.queue :=
    congrArg State.queue h
  have waiting := congrArg List.length queue
  rw [raisePassCounts_length] at waiting
  have marked := congrArg List.length (grantWalk_jobs (s.seq.mode == .watch) s.queue s.res)
  rw [List.length_map, ← waiting, eq_comm, List.countP_eq_length] at marked
  exact fun x hx => by simpa using marked x hx

/-- Whether a walk marks a job depends on the offers alone. -/
theorem grantWalk_quiet_congr {watch : Bool} {res res' : Resources}
    (same : ∀ j, res'.offer watch j = res.offer watch j) (js : List Job)
    (h : ∀ x ∈ (grantWalk watch js res).1, x.2 = false) : ∀ x ∈ (grantWalk watch js res').1, x.2 = false := by
  induction js with
  | nil => exact h
  | cons j js ih =>
    unfold grantWalk at h ⊢
    rw [same]
    split at h
    · exact absurd (h _ List.mem_cons_self) (by simp)
    · split at h
      · next below =>
        rw [if_pos below]
        exact List.forall_mem_cons.mpr ⟨rfl, ih (List.forall_mem_cons.mp h).2⟩
      · next blocked =>
        rw [if_neg blocked]
        exact h

/-- The arbiter rests as long as the queue, the resources and the reserve of WATCH are the same. -/
theorem State.GrantsRest.congr {s t : State} (h : s.GrantsRest) (queue : t.queue = s.queue) (res : t.res = s.res)
    (watch : (t.seq.mode == .watch) = (s.seq.mode == .watch)) : t.GrantsRest := by
  rw [State.grantsRest_iff] at h ⊢
  rwa [queue, res, watch]

/-- An empty queue leaves nothing to grant. -/
theorem State.grantsRest_of_empty {s : State} (h : s.queue = []) : s.GrantsRest := by
  rw [State.grantsRest_iff, h]
  exact fun x hx => by cases hx

/-- A change of a run leaves the offers as they are. -/
theorem State.offer_setUnit {s : State} {u : UnitId} {q : Running} (busy : s.res.units[u] = some q) (r : Running)
    (watch : Bool) (j : Job) : (s.setUnit u r).res.offer watch j = s.res.offer watch j := by
  have units (v : UnitId) : ((s.setUnit u r).res.units[v]).isNone = (s.res.units[v]).isNone := by
    by_cases e : u = v
    · subst e
      rw [s.setUnit_self, busy]
      rfl
    · rw [s.setUnit_other u v r e]
  unfold Resources.offer Resources.freeUnit
  rw [List.find?_congr fun v _ => units v]
  rfl

theorem State.GrantsRest.setUnit {s : State} (h : s.GrantsRest) {u : UnitId} {q : Running}
    (busy : s.res.units[u] = some q) (r : Running) : (s.setUnit u r).GrantsRest := by
  rw [State.grantsRest_iff] at h ⊢
  exact grantWalk_quiet_congr (fun j => State.offer_setUnit busy r _ j) s.queue h

theorem State.completeRound_watch (s : State) :
    (s.completeRound.seq.mode == .watch) = (s.seq.mode == .watch) := by
  unfold State.completeRound
  split
  · rfl
  · split <;> rfl
  · split <;> rfl
  · next single => rw [single]; rfl

theorem State.completeRound_res (s : State) : s.completeRound.res = s.res := by
  unfold State.completeRound
  split
  · rfl
  · split <;> rfl
  · split <;> rfl
  · rfl

theorem State.completeRound_queue (s : State) : s.completeRound.queue = s.queue := by
  unfold State.completeRound
  split
  · rfl
  · split <;> rfl
  · split <;> rfl
  · rfl

/-- A drive leaves the arbiter at rest and does not enter or leave WATCH. -/
theorem State.GrantsRest.drive {s : State} (h : s.GrantsRest) : s.drive.GrantsRest :=
  State.driveFor_keeps State.GrantsRest
    (fun t ht _ => ht.congr t.completeRound_queue t.completeRound_res t.completeRound_watch)
    (fun _ _ ht _ => ht.congr rfl rfl rfl) (fun _ _ _ _ => State.enterJob_rests _ _ _)
    (fun t o ht _ => by
      unfold State.issueSample
      split
      · exact ht
      · exact State.enterJob_rests _ _ _)
    (fun _ ht => ht.congr rfl rfl rfl) _ _ s h

theorem State.issueSample_seq (o : Operation) (s : State) : (s.issueSample o).seq = s.seq := by
  unfold State.issueSample
  split <;> rfl

theorem State.drive_watch (s : State) : (s.drive.seq.mode == .watch) = (s.seq.mode == .watch) :=
  State.driveFor_keeps (fun t => (t.seq.mode == .watch) = (s.seq.mode == .watch))
    (fun t ht _ => t.completeRound_watch.trans ht) (fun _ _ ht _ => ht) (fun _ _ ht _ => ht)
    (fun t o ht _ => by rw [t.issueSample_seq]; exact ht) (fun _ ht => ht) _ _ s rfl

end Sys2Proof.Machine
end

section
/-! Withdrawals, abandoned rounds and wakes keep the books (R37, R53, R54, R65, R70, R76). -/

namespace Sys2Proof.Machine

/-! ### What an end without result leaves alone -/

theorem State.endReport_parts (entry round : Nat) (s : State) :
    (s.endReport entry round).ops = s.ops ∧ (s.endReport entry round).res = s.res ∧
      (s.endReport entry round).queue = s.queue ∧
      ((s.endReport entry round).seq.mode == .watch) = (s.seq.mode == .watch) := by
  unfold State.endReport State.completeIfOver
  split
  · split
    · exact ⟨State.completeRound_ops _, State.completeRound_res _, State.completeRound_queue _,
        State.completeRound_watch _⟩
    · exact ⟨rfl, rfl, rfl, rfl⟩
  · exact ⟨rfl, rfl, rfl, rfl⟩

theorem State.endWithout_parts (j : Job) (s : State) :
    (s.endWithout j).res = s.res ∧ (s.endWithout j).queue = s.queue ∧
      ((s.endWithout j).seq.mode == .watch) = (s.seq.mode == .watch) := by
  unfold State.endWithout
  split
  · exact (State.endReport_parts _ _ s).2
  · exact ⟨rfl, rfl, rfl⟩

theorem State.endsWithout_parts (xs : List Job) (s : State) :
    (xs.foldl (fun t j => t.endWithout j) s).res = s.res ∧ (xs.foldl (fun t j => t.endWithout j) s).queue = s.queue ∧
      ((xs.foldl (fun t j => t.endWithout j) s).seq.mode == .watch) = (s.seq.mode == .watch) := by
  induction xs generalizing s with
  | nil => exact ⟨rfl, rfl, rfl⟩
  | cons x xs ih =>
    obtain ⟨res, queue, watch⟩ := State.endWithout_parts x s
    obtain ⟨res', queue', watch'⟩ := ih (s.endWithout x)
    exact ⟨res'.trans res, queue'.trans queue, watch'.trans watch⟩

theorem OpEngine.Fits.jobEnded_eq {e : OpEngine} (fits : e.Fits) {o : Operation} (ho : o ∈ e.table) :
    e.jobEnded o.opId = e.update { o with outstanding := false } := by
  unfold OpEngine.jobEnded
  rw [fits.find_eq ho]

/-! ### The end of a job (R37, R53, R70) -/

theorem ScanJobs.mono {astray astray' : Job → Bool} (more : ∀ j, astray j = true → astray' j = true) {q : Sequencer}
    {xs : List Job} (h : ScanJobs astray q xs) : ScanJobs astray' q xs :=
  ⟨fun j hj => (h.1 j hj).imp_right fun ⟨lost, between⟩ => ⟨more j lost, between⟩, h.2⟩

/-- While a round is in progress no job is astray. -/
theorem ScanJobs.inRound {astray : Job → Bool} {q : Sequencer} {xs : List Job} (h : ScanJobs astray q xs)
    (inRound : q.inRound = true) : ScanJobs noJob q xs :=
  ⟨fun j hj => (h.1 j hj).imp_right fun ⟨_, between⟩ => absurd (inRound.symm.trans between) (by decide), h.2⟩

/-- The job of an outstanding entry ends: the entry and the job go, the others stay. -/
theorem ScanJobs.erase {q : Sequencer} {j : Job} {xs : List Job} (h : ScanJobs noJob q (j :: xs)) {entry : Nat}
    (ho : j.origin = .scan entry q.round) (mem : entry ∈ q.outstanding) :
    ScanJobs noJob { q with outstanding := q.outstanding.erase entry } xs := by
  have owns := h.owns
  obtain ⟨-, distinct, counts⟩ := h
  have alone : xs.countP (fun k => k.origin == .scan entry q.round) = 0 := by
    have one := (counts entry mem).2
    rw [List.countP_cons_of_pos (by simp [ho])] at one
    exact Nat.succ_inj.mp one
  refine ⟨fun k hk => .inl ?_, distinct.erase entry, fun e he => ?_⟩
  · have owned := owns k (List.mem_cons_of_mem _ hk)
    cases hs : k.isScan with
    | false => exact Sequencer.owns_op (Job.isOp_of_not_isScan hs)
    | true =>
      obtain ⟨i, n, hk'⟩ := (Job.isScan_iff k).mp hs
      obtain ⟨inRound, rfl, hi, named⟩ := (Sequencer.owns_scan hk').mp owned
      refine (Sequencer.owns_scan hk').mpr ⟨inRound, rfl, (List.mem_erase_of_ne ?_).mpr hi, named⟩
      rintro rfl
      exact List.countP_eq_zero.mp alone k hk (by simp [hk'])
  · obtain ⟨ne, he⟩ := (List.Nodup.mem_erase_iff distinct).mp he
    obtain ⟨before, one⟩ := counts e he
    rw [List.countP_cons_of_neg (by simpa [ho] using ne.symm)] at one
    exact ⟨before, one⟩

namespace State.Coherent

variable {extra : List Job} {astray : Job → Bool} {s : State}

theorem completeIfOver (h : s.Coherent extra noJob) : s.completeIfOver.Coherent extra noJob := by
  unfold State.completeIfOver
  split
  · next ended => exact h.completeRound ended
  · exact h

/-- The end report of a scan job takes the job out of the books (R70). -/
theorem endReport {j : Job} (h : s.Coherent (j :: extra) astray) {entry round : Nat}
    (ho : j.origin = .scan entry round) : (s.endReport entry round).Coherent extra astray := by
  have scan : j.isScan = true := (Job.isScan_iff j).mpr ⟨entry, round, ho⟩
  have opJobs := (OpJobs.cons_scan scan _).mp h.opJobs
  cases inRound : s.seq.inRound with
  | false =>
    have same : s.endReport entry round = s := if_neg (by simp [inRound])
    have none := (h.seqSound.1 inRound).2
    rw [same]
    refine { h with opJobs := opJobs, scanJobs := ⟨?_, h.scanJobs.2.1, fun e he => ?_⟩ }
    · exact fun k hk => h.scanJobs.1 k (List.mem_cons_of_mem _ hk)
    · rw [none] at he
      cases he
  | true =>
    have owned := h.scanJobs.inRound inRound
    obtain ⟨-, rfl, mem, -⟩ := (Sequencer.owns_scan ho).mp (owned.owns j List.mem_cons_self)
    unfold State.endReport
    rw [if_pos ⟨inRound, rfl, mem⟩]
    obtain ⟨-, stopped, timer, round, overruns, length, dividers, inside⟩ := h.seqSound
    have told : State.Coherent extra noJob
        { s with seq := { s.seq with outstanding := s.seq.outstanding.erase entry } } :=
      { h with
        seqSound := ⟨fun between => absurd (inRound.symm.trans between) (by decide), stopped, timer, round, overruns,
          length, dividers, inside⟩
        opJobs := opJobs
        scanJobs := owned.erase ho mem }
    have done := told.completeIfOver
    exact { done with scanJobs := done.scanJobs.mono fun _ lost => by cases lost }

/-- The end without result of an operation's job takes the job out of the books (R130). -/
theorem jobEnded {j : Job} (h : s.Coherent (j :: extra) astray) {id entry : Nat} (ho : j.origin = .op id entry) :
    State.Coherent extra astray { s with ops := s.ops.jobEnded id } ∧ s.ops.SamePlans (s.ops.jobEnded id) := by
  have op : j.isOp = true := (Job.isOp_iff j).mpr ⟨id, entry, ho⟩
  obtain ⟨o, mem, samples, -, alone⟩ := h.opJobs.owner op
  obtain ⟨fits, -⟩ := h.opsSound
  have own := ((Job.samples_iff o j).mp samples).1
  rw [ho, Origin.op.injEq] at own
  obtain ⟨rfl, -⟩ := own
  rw [fits.jobEnded_eq mem]
  have same : s.ops.SamePlans (s.ops.update { o with outstanding := false }) := fits.samePlans_update mem rfl
  refine ⟨{ h with
    opsSound := same.sound h.opsSound
    opJobs := ?_
    scanJobs := (ScanJobs.cons_op op _).mp h.scanJobs
    watchSound := fun watch => ?_ }, same⟩
  · obtain ⟨counts, owned⟩ := h.opJobs.others ho
    exact OpJobs.update mem rfl rfl alone counts owned
  · have none := (h.watchSound watch).1
    rw [none] at mem
    cases mem

/-- The end without result of a job takes it out of the books. -/
theorem endWithout {j : Job} (h : s.Coherent (j :: extra) astray) :
    (s.endWithout j).Coherent extra astray ∧ s.ops.SamePlans (s.endWithout j).ops := by
  unfold State.endWithout
  cases ho : j.origin with
  | scan entry round =>
    refine ⟨h.endReport ho, ?_⟩
    dsimp only
    rw [(State.endReport_parts entry round s).1]
    exact .refl _
  | op id entry => exact h.jobEnded ho

theorem endsWithout {xs : List Job} (h : s.Coherent (xs ++ extra) astray) :
    (xs.foldl (fun t j => t.endWithout j) s).Coherent extra astray ∧
      s.ops.SamePlans (xs.foldl (fun t j => t.endWithout j) s).ops := by
  induction xs generalizing s with
  | nil => exact ⟨h, .refl _⟩
  | cons x xs ih =>
    obtain ⟨told, same⟩ := h.endWithout
    exact ⟨(ih told).1, same.trans (ih told).2⟩

/-! ### Withdrawals (R54) -/

/-- A change of the queue and of the resources that keeps the jobs, with those that leave them counted apart. -/
theorem moved (bare : ∀ j : Job, astray j.bare = astray j) (h : s.Coherent extra astray) {extra' : List Job}
    {res : Resources} {queue : List Job}
    (jobs : (extra ++ s.jobs).Perm (extra' ++ State.jobs { s with res := res, queue := queue }))
    (watch : s.res.WatchOnly → res.WatchOnly) :
    State.Coherent extra' astray { s with res := res, queue := queue } :=
  { h with
    opJobs := h.opJobs.of_same (.of_perm jobs)
    scanJobs := h.scanJobs.of_same bare (.of_perm jobs)
    watchSound := fun hw => ⟨(h.watchSound hw).1, watch (h.watchSound hw).2⟩ }

end State.Coherent

theorem Resources.WatchOnly.release {res : Resources} (h : res.WatchOnly) (u : UnitId) (r : Running) :
    (res.release u r).WatchOnly := by
  refine ⟨fun v hv => ?_, fun c hc => ?_⟩
  · rw [Resources.release_unit]
    split
    · rfl
    · exact h.1 v hv
  · rw [Resources.release_cell]
    split
    · rfl
    · exact h.2 c hc

namespace State.Coherent

variable {extra : List Job} {astray : Job → Bool} {s : State}

/-- A unit is released: its job leaves the jobs, and its origin is still to be told. -/
theorem released (bare : ∀ j : Job, astray j.bare = astray j) (h : s.Coherent [] astray) {u : UnitId} {r : Running}
    (busy : s.res.units[u] = some r) :
    State.Coherent [r.job] astray { s with res := s.res.release u r } :=
  h.moved (queue := s.queue) bare (State.release_jobs busy) fun only => only.release u r

theorem abortUnit (bare : ∀ j : Job, astray j.bare = astray j) (h : s.Coherent [] astray) (named : Job → Bool)
    (u : UnitId) :
    (s.abortUnit named u).Coherent [] astray ∧ s.ops.SamePlans (s.abortUnit named u).ops := by
  unfold State.abortUnit
  split
  · exact ⟨h, .refl _⟩
  · next r busy =>
    split
    · exact (h.released bare busy).endWithout
    · exact ⟨h, .refl _⟩

end State.Coherent

/-- What still runs on a unit after the abort of named jobs is not named, at the unit of the abort. -/
theorem State.abortUnit_unit {named : Job → Bool} {u v : UnitId} {s : State} {r : Running}
    (h : (s.abortUnit named u).res.units[v] = some r) :
    s.res.units[v] = some r ∧ (u = v → named r.job = false) := by
  unfold State.abortUnit at h
  split at h
  · next free =>
    refine ⟨h, ?_⟩
    rintro rfl
    rw [free] at h
    cases h
  · next q busy =>
    split at h
    · simp only [(State.endWithout_parts _ _).1, Resources.release_unit] at h
      split at h
      · cases h
      · next other => exact ⟨h, fun e => absurd e other⟩
    · next spared =>
      refine ⟨h, ?_⟩
      rintro rfl
      rw [busy] at h
      cases h
      simpa using spared

theorem State.abortUnit_parts (named : Job → Bool) (u : UnitId) (s : State) :
    (s.abortUnit named u).queue = s.queue ∧ ((s.abortUnit named u).seq.mode == .watch) = (s.seq.mode == .watch) := by
  unfold State.abortUnit
  split
  · exact ⟨rfl, rfl⟩
  · split
    · exact (State.endWithout_parts _ _).2
    · exact ⟨rfl, rfl⟩

/-- The aborts of a withdrawal, unit by unit. -/
theorem State.Coherent.abortUnits {astray : Job → Bool} (bare : ∀ j : Job, astray j.bare = astray j)
    (named : Job → Bool) (us : List UnitId) {s t : State} (ht : t = us.foldl (fun t u => t.abortUnit named u) s)
    (h : s.Coherent [] astray) :
    t.Coherent [] astray ∧ s.ops.SamePlans t.ops ∧ t.queue = s.queue ∧
      (t.seq.mode == .watch) = (s.seq.mode == .watch) ∧
      ∀ v r, t.res.units[v] = some r → s.res.units[v] = some r ∧ (v ∈ us → named r.job = false) := by
  subst ht
  induction us generalizing s with
  | nil => exact ⟨h, .refl _, rfl, rfl, fun v r hv => ⟨hv, by simp⟩⟩
  | cons u us ih =>
    obtain ⟨aborted, same⟩ := h.abortUnit bare named u
    obtain ⟨queue, watch⟩ := State.abortUnit_parts named u s
    obtain ⟨coherent, plans, queue', watch', units⟩ := ih aborted
    refine ⟨coherent, same.trans plans, queue'.trans queue, watch'.trans watch, fun v r hv => ?_⟩
    obtain ⟨before, spared⟩ := units v r hv
    obtain ⟨before, atUnit⟩ := State.abortUnit_unit before
    refine ⟨before, fun mem => ?_⟩
    rcases List.mem_cons.mp mem with rfl | mem
    · exact atUnit rfl
    · exact spared mem

/-- `t` is `s` after the withdrawal of the jobs that a selection names. -/
structure State.Withdrawn (named : Job → Bool) (s t : State) : Prop where
  coherent : t.Coherent [] noJob
  plans : s.ops.SamePlans t.ops
  unnamed : ∀ j ∈ t.jobs, named j = false
  kept : ∀ j ∈ t.jobs, ∃ k ∈ s.jobs, k.bare = j.bare
  rests : s.GrantsRest → t.GrantsRest
  watch : (t.seq.mode == .watch) = (s.seq.mode == .watch)

/-- A selection names no job of a state. -/
theorem State.names_false {named : Job → Bool} {s : State} (h : s.names named = false) :
    (∀ j ∈ s.queue, named j = false) ∧ ∀ (u : UnitId) (r : Running), s.res.units[u] = some r → named r.job = false := by
  unfold State.names at h
  simp only [Bool.or_eq_false_iff, List.any_eq_false, Bool.not_eq_true] at h
  refine ⟨h.1, fun u r busy => ?_⟩
  have mem : some r ∈ s.res.units.toList := busy ▸ Vector.mem_toList_iff.mpr (Vector.getElem_mem _)
  simpa using h.2 _ mem

theorem State.withdraw_nothing {named : Job → Bool} {s : State} (h : s.names named = false) :
    s.withdraw named = s := by
  obtain ⟨waiting, running⟩ := State.names_false h
  have queue : s.queue.filter (fun j => !named j) = s.queue :=
    List.filter_eq_self.mpr fun j hj => by simp [waiting j hj]
  have none : s.queue.filter named = [] := List.filter_eq_nil_iff.mpr fun j hj => by simp [waiting j hj]
  have idle (u : UnitId) : s.abortUnit named u = s := by
    unfold State.abortUnit
    split
    · rfl
    · next r busy => exact if_neg (by simp [running u r busy])
  unfold State.withdraw
  simp only [queue, none, List.foldl_nil, List.foldl_cons, idle, h]
  rfl

/-- Where every job that could be astray has gone, none is. -/
theorem State.Coherent.noneAstray {astray named : Job → Bool} {s : State} (h : s.Coherent [] astray)
    (covered : ∀ j, astray j = true → named j = true) (unnamed : ∀ j ∈ s.jobs, named j = false) :
    s.Coherent [] noJob :=
  { h with
    scanJobs := ⟨fun j hj => (h.scanJobs.1 j hj).imp_right fun ⟨lost, _⟩ =>
      absurd ((unnamed j hj).symm.trans (covered j lost)) (by decide), h.scanJobs.2⟩ }

/-- A job of a state waits in the queue or runs on a unit. -/
theorem State.mem_jobs {s : State} {j : Job} :
    j ∈ s.jobs ↔ j ∈ s.queue ∨ ∃ (u : UnitId) (r : Running), s.res.units[u] = some r ∧ r.job = j := by
  unfold State.jobs
  rw [List.mem_append, List.mem_map]
  refine or_congr_right ⟨fun ⟨x, hx, e⟩ => ⟨x.1, x.2, Resources.mem_running.mp hx, e⟩, fun ⟨u, r, busy, e⟩ => ?_⟩
  exact ⟨(u, r), Resources.mem_running.mpr busy, e⟩

/-- A withdrawal before its grant pass: the waiting jobs removed and told, then the running ones aborted. -/
def State.afterEnds (named : Job → Bool) (s : State) : State :=
  [0, 1, 2, 3].foldl (fun t u => t.abortUnit named u)
    ((s.queue.filter named).foldl (fun t j => t.endWithout j) { s with queue := s.queue.filter fun j => !named j })

theorem State.withdraw_eq {named : Job → Bool} {s : State} (h : s.names named = true) :
    s.withdraw named = (s.afterEnds named).grantPass := if_pos h

/-- A withdrawal takes the named jobs out of the books, those astray among them. -/
theorem State.Coherent.withdraw {astray named : Job → Bool} {s : State} (h : s.Coherent [] astray)
    (bareA : ∀ j : Job, astray j.bare = astray j) (bareN : ∀ j : Job, named j.bare = named j)
    (covered : ∀ j, astray j = true → named j = true) : s.Withdrawn named (s.withdraw named) := by
  cases hn : s.names named with
  | false =>
    rw [State.withdraw_nothing hn]
    obtain ⟨waiting, running⟩ := State.names_false hn
    have unnamed : ∀ j ∈ s.jobs, named j = false := by
      intro j hj
      rcases State.mem_jobs.mp hj with hj | ⟨u, r, busy, rfl⟩
      · exact waiting j hj
      · exact running u r busy
    exact ⟨h.noneAstray covered unnamed, .refl _, unnamed, fun j hj => ⟨j, hj, rfl⟩, id, rfl⟩
  | true =>
    have dropped : State.Coherent (s.queue.filter named ++ []) astray
        { s with queue := s.queue.filter fun j => !named j } := by
      refine h.moved (res := s.res) bareA ?_ id
      rw [List.append_nil, List.nil_append]
      exact ((List.filter_append_perm named s.queue).symm.append_right _).trans (by rw [List.append_assoc]; exact .rfl)
    obtain ⟨told, plans⟩ := dropped.endsWithout
    obtain ⟨res, queue, watch⟩ :=
      State.endsWithout_parts (s.queue.filter named) { s with queue := s.queue.filter fun j => !named j }
    obtain ⟨coherent, plans', queue', watch', units⟩ :=
      told.abortUnits (t := s.afterEnds named) bareA named [0, 1, 2, 3] rfl
    rw [State.withdraw_eq hn]
    have kept : ∀ j ∈ (s.afterEnds named).jobs, j ∈ s.jobs ∧ named j = false := by
      intro j hj
      rcases State.mem_jobs.mp hj with hj | ⟨u, r, busy, rfl⟩
      · rw [queue', queue] at hj
        exact ⟨State.mem_jobs.mpr (.inl (List.mem_of_mem_filter hj)), by simpa using List.of_mem_filter hj⟩
      · obtain ⟨before, spared⟩ := units u r busy
        rw [res] at before
        exact ⟨State.mem_jobs.mpr (.inr ⟨u, r, before, rfl⟩), spared (mem_units u)⟩
    have unnamed := fun j hj => (kept j hj).2
    refine ⟨(coherent.noneAstray covered unnamed).grantPass fun _ => rfl, plans.trans plans', fun j hj => ?_,
      fun j hj => ?_, fun _ => State.grantPass_rests _, watch'.trans watch⟩
    · obtain ⟨k, hk, e⟩ := State.mem_jobs_grantPass hj
      rw [← bareN, ← e, bareN]
      exact unnamed k hk
    · obtain ⟨k, hk, e⟩ := State.mem_jobs_grantPass hj
      exact ⟨k, (kept k hk).1, e⟩

end Sys2Proof.Machine
end

section
/-! Abandoned rounds, the begin of a run, wakes and the scan requests keep the books and leave both the producers and
the arbiter at rest (R61, R63 to R66, R76). -/

namespace Sys2Proof.Machine

/-! ### Between rounds the sequencer stands still -/

/-- The sequencer after its round has been abandoned (R65). -/
def Sequencer.abandoned (q : Sequencer) : Sequencer :=
  { q with inRound := false, issuePos := 0, outstanding := [], eligible := [], heldStart := false }

theorem State.endWithout_between {s : State} (between : s.seq.inRound = false) (j : Job) :
    (s.endWithout j).seq = s.seq := by
  unfold State.endWithout State.endReport
  split
  · rw [if_neg (by simp [between])]
  · rfl

theorem State.withdraw_between {s : State} (between : s.seq.inRound = false) (named : Job → Bool) :
    (s.withdraw named).seq = s.seq := by
  have told (t : State) (j : Job) (ht : t.seq = s.seq) : (t.endWithout j).seq = s.seq :=
    (State.endWithout_between (ht ▸ between) j).trans ht
  refine State.withdraw_keeps (fun t => t.seq = s.seq) named (fun _ ht => ht) told (fun t u ht => ?_)
    (fun _ ht => ht) s rfl
  unfold State.abortUnit
  split
  · exact ht
  · split
    · exact told _ _ ht
    · exact ht

theorem State.drive_between {s : State} (between : s.seq.inRound = false) : s.drive.seq = s.seq := by
  have nothing {t : State} (ht : t.seq = s.seq) (inRound : t.seq.inRound = true) : False := by
    rw [ht, between] at inRound
    cases inRound
  refine State.driveFor_keeps (fun t => t.seq = s.seq) (fun t ht ended => ?_) (fun t _ ht due => ?_)
    (fun t e ht next => ?_) (fun t o ht _ => (t.issueSample_seq o).trans ht) (fun _ ht => ht) _ _ s rfl
  · exact (nothing ht ((Sequencer.roundOver_iff _).mp ended).1).elim
  · obtain ⟨e, at_⟩ := State.skipDue_at due
    exact (nothing ht (Sequencer.atPosition_some at_).1).elim
  · exact (nothing ht (Sequencer.atPosition_some (State.nextScan_at next)).1).elim

theorem State.abandon_seq (s : State) : s.abandon.seq = s.seq.abandoned := by
  have withdrawn := State.withdraw_between (s := { s with seq := s.seq.abandoned }) rfl Job.isScan
  have between := congrArg Sequencer.inRound withdrawn
  exact (State.drive_between between).trans withdrawn

theorem Sequencer.abandoned_sound {q : Sequencer} (h : q.Sound) : q.abandoned.Sound := by
  obtain ⟨-, -, timer, round, overruns, length, dividers, -⟩ := h
  exact ⟨fun _ => ⟨rfl, rfl⟩, fun _ => rfl, timer, round, overruns, length, dividers, Nat.zero_le _⟩

/-! ### What a state at rest is -/

/-- The books agree and neither the producers nor the arbiter have anything to do. -/
structure State.AtRest (s : State) : Prop where
  coherent : s.Coherent [] noJob
  producers : s.ProducersRest
  grants : s.GrantsRest

theorem State.Coherent.atRest {s : State} (h : s.Coherent [] noJob) (grants : s.GrantsRest) : s.drive.AtRest :=
  ⟨h.drive.1, s.drive_rests, grants.drive⟩

namespace State.Coherent

variable {extra : List Job} {astray : Job → Bool} {s : State}

/-- An abandoned round leaves no scan job, whatever scan jobs there were (R65). -/
theorem abandon (h : s.Coherent extra astray) (opJobs : OpJobs s.ops s.jobs) :
    s.abandon.Coherent [] noJob ∧ s.ops.SamePlans s.abandon.ops ∧ (s.GrantsRest → s.abandon.GrantsRest) := by
  have reset : State.Coherent [] Job.isScan { s with seq := s.seq.abandoned } :=
    { h with
      seqSound := Sequencer.abandoned_sound h.seqSound
      opJobs := opJobs
      scanJobs := ⟨fun j _ => by
        cases hs : j.isScan with
        | false => exact .inl (Sequencer.owns_op (Job.isOp_of_not_isScan hs))
        | true => exact .inr ⟨rfl, rfl⟩, List.nodup_nil, fun e he => by cases he⟩ }
  have gone := reset.withdraw (fun _ => rfl) (named := Job.isScan) (fun _ => rfl) fun _ hj => hj
  exact ⟨gone.coherent.drive.1, gone.plans.trans gone.coherent.drive.2,
    fun grants => (gone.rests (grants.congr rfl rfl rfl)).drive⟩

/-- With no operation in the table and no entry outstanding there is no job. -/
theorem noJobs (h : s.Coherent [] noJob) (table : s.ops.table = []) (none : s.seq.outstanding = []) : s.jobs = [] := by
  refine List.eq_nil_iff_forall_not_mem.mpr fun j hj => ?_
  obtain ⟨o, ho, -⟩ := h.opJobs.2 j hj (h.allOps none j hj)
  rw [table] at ho
  cases ho

/-! ### Runs (R61, R63, R66, R76) -/

/-- The first round of a run begins, between rounds (R61, R63, R68). -/
theorem startRun (h : s.Coherent [] noJob) (none : s.seq.outstanding = []) {mode : SeqMode} {timer : Option Timer}
    (moving : mode ≠ .stopped) (timed : timer.isSome = (mode == .running || mode == .watch))
    (watch : mode = .watch → s.ops.table = [] ∧ s.res.WatchOnly) :
    State.Coherent [] noJob
      { (s.beginRun mode).roundBegin with seq := { (s.beginRun mode).roundBegin.seq with timer := timer } } := by
  obtain ⟨-, -, -, -, overruns, length, dividers, -⟩ := h.seqSound
  refine h.setSeq (h.allOps none) ⟨fun between => ?_, fun stopped => absurd stopped moving, timed, ?_, overruns, length,
    dividers, Nat.zero_le _⟩ rfl watch
  · cases between
  · exact Nat.le_of_lt_succ (Nat.mod_lt _ (by decide))

/-- A run of paced rounds begins (R61, R63, R66). -/
theorem startPaced (h : s.Coherent [] noJob) (none : s.seq.outstanding = []) {mode : SeqMode} (period : Nat)
    (paced : (mode == .running || mode == .watch) = true)
    (watch : mode = .watch → s.ops.table = [] ∧ s.res.WatchOnly) :
    (s.startPaced mode period).Coherent [] noJob ∧ s.ops.SamePlans (s.startPaced mode period).ops := by
  have begun := h.startRun none (mode := mode) (timer := some (Timer.start period))
    (by rintro rfl; cases paced) paced.symm watch
  exact begun.drive

end State.Coherent

/-- A round that begins in a run has the next number, and so have what a drive makes of it. -/
theorem State.startPaced_round (mode : SeqMode) (period : Nat) (s : State) :
    (s.startPaced mode period).seq.round = nextRound s.seq.round := by
  refine (State.driveFor_keeps (fun t => t.seq.heldStart = false ∧ t.seq.round = nextRound s.seq.round)
    (fun t ht _ => ?_) (fun _ _ ht _ => ht) (fun _ _ ht _ => ht) (fun t o ht _ => ?_) (fun _ ht => ht) _ _ _
    ⟨rfl, rfl⟩).2
  · have fresh : ¬ t.seq.heldStart = true := by simp [ht.1]
    unfold State.completeRound
    dsimp only
    rw [if_neg fresh]
    split <;> exact ht
  · rw [t.issueSample_seq]
    exact ht

theorem nextRound_ne (n : Nat) : nextRound n ≠ n := by
  unfold nextRound
  omega

theorem State.startPaced_watch (mode : SeqMode) (period : Nat) (s : State) :
    ((s.startPaced mode period).seq.mode == .watch) = (mode == .watch) := State.drive_watch _

/-- What a wake out of WATCH leaves: the books in order, no operation, another round, at rest (R76). -/
theorem State.Coherent.wake {extra : List Job} {astray : Job → Bool} {s : State} (h : s.Coherent extra astray)
    (opJobs : OpJobs s.ops s.jobs) (watch : s.seq.mode = .watch) (reason : WakeReason) :
    (s.wake reason).AtRest ∧ s.ops.SamePlans (s.wake reason).ops ∧ (s.wake reason).seq.mode ≠ .watch ∧
      (s.wake reason).seq.round ≠ s.seq.round := by
  obtain ⟨abandoned, plans, -⟩ := (h.addRecord (Record.scan_legal (.woke reason) s.seq.round)).abandon opJobs
  have seq := (s.addRecord (.scan (.woke reason) s.seq.round)).abandon_seq
  have none : (s.addRecord (.scan (.woke reason) s.seq.round)).abandon.seq.outstanding = [] := by rw [seq]; rfl
  have table : (s.addRecord (.scan (.woke reason) s.seq.round)).abandon.ops.table = [] := by
    refine (abandoned.watchSound ?_).1
    rw [seq]
    exact watch
  have unfolded : s.wake reason = _ := if_pos watch
  rw [unfolded]
  dsimp only
  obtain ⟨started, plans'⟩ := abandoned.startPaced none (mode := .running) _ rfl fun e => by cases e
  refine ⟨⟨started, State.drive_rests _, State.GrantsRest.drive ?_⟩, plans.trans plans', fun e => ?_, ?_⟩
  · refine State.grantsRest_of_empty ?_
    exact (List.append_eq_nil_iff.mp (abandoned.noJobs table none)).1
  · have := State.startPaced_watch .running
      (s.addRecord (.scan (.woke reason) s.seq.round)).abandon.seq.runPeriod
      (s.addRecord (.scan (.woke reason) s.seq.round)).abandon
    rw [e] at this
    cases this
  · rw [State.startPaced_round, seq]
    exact nextRound_ne s.seq.round

/-- A wake leaves a state at rest at rest, and out of WATCH (R76). -/
theorem State.AtRest.wake {s : State} (h : s.AtRest) (reason : WakeReason) :
    (s.wake reason).AtRest ∧ s.ops.SamePlans (s.wake reason).ops ∧ (s.wake reason).seq.mode ≠ .watch := by
  by_cases watch : s.seq.mode = .watch
  · obtain ⟨rest, plans, mode, -⟩ := h.coherent.wake h.coherent.opJobs watch reason
    exact ⟨rest, plans, mode⟩
  · rw [State.wake_outside _ _ watch]
    exact ⟨h, .refl _, watch⟩

end Sys2Proof.Machine
end

section
/-! What the detectors make of a live state stays within its ranges and its states, and agrees with what they do to the
lock (R8 to R11, R79 to R116). -/

namespace Sys2Proof.Machine

/-- A live state under a configuration: its ranges, the states of the detector, the baseline and the suppressed mark
(R8 to R11, R79, R103). -/
structure LiveState.Fits (cfg : ChannelConfig) (l : LiveState) : Prop where
  baseline : ∀ b ∈ l.baseline, b ≤ Config.rawMax
  lastRaw : ∀ r ∈ l.lastRaw, r ≤ Config.rawMax
  lastSignal : ∀ v ∈ l.lastSignal, v.natAbs ≤ Config.rawMax
  lastReported : ∀ v ∈ l.lastReported, v.natAbs ≤ Config.rawMax
  settleSamples : l.settleSamples < cfg.delta.settleCount
  settleSum : l.settleSum ≤ l.settleSamples * Config.rawMax
  debounce : l.debounce ≤ 15
  activeResults : l.activeResults ≤ Config.countMax
  driftCount : l.driftCount < cfg.delta.driftInterval
  reverseCount : l.reverseCount < cfg.delta.reverseLimit
  faultCount : l.faultCount < cfg.faultLimit
  admitted : cfg.detector.admits l.state = true
  off : l.state = .off ↔ cfg.enable = false
  holds : l.baseline.isSome = l.state.hasBaseline
  suppressed : l.suppressed = true → l.state = .arming ∧ l.debounce = cfg.debounceOn

theorem LiveState.fits_iff (cfg : ChannelConfig) (l : LiveState) :
    l.Fits cfg ↔ l.inRange cfg = true ∧ Channel.Sound ⟨cfg, l⟩ ∧ Channel.SuppressedSound ⟨cfg, l⟩ := by
  rw [LiveState.inRange_iff]
  constructor
  · rintro ⟨a, b, c, d, e, f, g, h, i, j, k, m, n, o, p⟩
    exact ⟨⟨a, b, c, d, e, f, g, h, i, j, k⟩, ⟨m, n, o⟩, p⟩
  · rintro ⟨⟨a, b, c, d, e, f, g, h, i, j, k⟩, ⟨m, n, o⟩, p⟩
    exact ⟨a, b, c, d, e, f, g, h, i, j, k, m, n, o, p⟩

/-- The bounds that a valid configuration sets to counts (R3, R6). -/
theorem ChannelConfig.counts_of_valid {cfg : ChannelConfig} (h : cfg.valid = true) :
    1 ≤ cfg.delta.settleCount ∧ 1 ≤ cfg.delta.driftInterval ∧ 1 ≤ cfg.delta.reverseLimit ∧ cfg.debounceOn ≤ 15 ∧
      cfg.debounceOff ≤ 15 ∧ 1 ≤ cfg.faultLimit := by
  rw [ChannelConfig.valid_iff] at h
  omega

namespace LiveState.Fits

variable {cfg : ChannelConfig} {l : LiveState}

/-- A cleared live state fits in every state without a baseline that its channel can be in. -/
theorem cleared (valid : cfg.valid = true) {st : ChanState} (admitted : cfg.detector.admits st = true)
    (off : st = .off ↔ cfg.enable = false) (bare : st.hasBaseline = false) : (LiveState.cleared st).Fits cfg := by
  obtain ⟨settle, drift, reverse, -, -, fault⟩ := ChannelConfig.counts_of_valid valid
  exact ⟨fun _ h => (Option.not_mem_none _ h).elim, fun _ h => (Option.not_mem_none _ h).elim,
    fun _ h => (Option.not_mem_none _ h).elim, fun _ h => (Option.not_mem_none _ h).elim, settle, Nat.zero_le _,
    Nat.zero_le _, Nat.zero_le _, drift, reverse, fault, admitted, off, bare.symm, fun h => by cases h⟩

/-- The state changes to another one of the detector with as much of a baseline. -/
theorem moves (h : l.Fits cfg) {st : ChanState} (admitted : cfg.detector.admits st = true)
    (on : l.state ≠ .off ∧ st ≠ .off) (holds : st.hasBaseline = l.state.hasBaseline)
    (free : l.suppressed = false) : LiveState.Fits cfg { l with state := st } :=
  { h with
    admitted := admitted
    off := ⟨fun e => absurd e on.2, fun e => absurd (h.off.mpr e) on.1⟩
    holds := h.holds.trans holds.symm
    suppressed := fun e => absurd (free.symm.trans e) (by decide) }

/-- Only in ARMING does the suppressed mark stand (R103). -/
theorem unsuppressed (h : l.Fits cfg) (state : l.state ≠ .arming) : l.suppressed = false :=
  Bool.eq_false_iff.mpr fun e => state (h.suppressed e).1

/-- The suppressed mark may be cleared. -/
theorem clearSuppressed (h : l.Fits cfg) : LiveState.Fits cfg { l with suppressed := false } :=
  { h with suppressed := fun e => by cases e }

/-- Without the suppressed mark the debounce count is bounded alone (R103). -/
theorem setDebounce (h : l.Fits cfg) (free : l.suppressed = false) {n : Nat} (hn : n ≤ 15) :
    LiveState.Fits cfg { l with debounce := n } :=
  { h with
    debounce := hn
    suppressed := fun e => absurd (free.symm.trans e) (by decide) }

theorem setCandidate (h : l.Fits cfg) (z : Option Zone) : LiveState.Fits cfg { l with candidate := z } := { h with }

/-- The fault count may be cleared (R84, R109). -/
theorem clearFaults (valid : cfg.valid = true) (h : l.Fits cfg) : LiveState.Fits cfg { l with faultCount := 0 } :=
  { h with faultCount := (ChannelConfig.counts_of_valid valid).2.2.2.2.2 }

end LiveState.Fits

/-- What a verdict on a channel in a state leaves: a fitting live state, a lock action that agrees with its state, and
no calibration begun or ended (R91, R96, R100, R102). -/
structure Verdict.Fits (cfg : ChannelConfig) (lockOpen : Bool) (before : ChanState) (v : Verdict) : Prop where
  live : v.live.Fits cfg
  lock : match v.lock with
    | .keep => v.live.state.touched = before.touched
    | .take => v.live.state.touched = true ∧ lockOpen = true
    | .free => v.live.state.touched = false
  calibrating : v.live.state = .calibrating ↔ before = .calibrating

/-! ### DELTA (R79 to R95) -/

/-- The states in which a DELTA channel holds a baseline are states of DELTA (R8, R79). -/
theorem Detector.admits_baseline {d : Detector} (delta : d = .delta) {st : ChanState} (h : st.hasBaseline = true) :
    d.admits st = true ∧ st ≠ .off ∧ st ≠ .calibrating := by
  subst delta
  cases st <;> simp_all [ChanState.hasBaseline, Detector.admits]

/-- A touched channel holds a baseline and is neither arming nor calibrating (R79, R100). -/
theorem ChanState.of_touched {st : ChanState} (h : st.touched = true) :
    st.hasBaseline = true ∧ st ≠ .arming ∧ st ≠ .calibrating := by
  cases st <;> simp_all [ChanState.touched, ChanState.hasBaseline]

section
variable {cfg : ChannelConfig} {l : LiveState} {lockOpen : Bool}

/-- A DELTA channel with a baseline changes between the states with one. -/
theorem LiveState.Fits.detects (h : l.Fits cfg) (delta : cfg.detector = .delta) {st : ChanState}
    (before : l.state.hasBaseline = true) (after : st.hasBaseline = true) (free : l.suppressed = false) :
    LiveState.Fits cfg { l with state := st } :=
  h.moves (Detector.admits_baseline delta after).1
    ⟨(Detector.admits_baseline delta before).2.1, (Detector.admits_baseline delta after).2.1⟩
    (after.trans before.symm) free

theorem settlingResult_fits (delta : cfg.detector = .delta) (valid : cfg.valid = true) (h : l.Fits cfg) {raw : Nat}
    (hr : raw ≤ Config.rawMax) (state : l.state = .settling) :
    (settlingResult cfg raw l).Fits cfg lockOpen .settling := by
  obtain ⟨settle, drift, reverse, -⟩ := ChannelConfig.counts_of_valid valid
  have samples := h.settleSamples
  have sum : l.settleSum + raw ≤ (l.settleSamples + 1) * Config.rawMax := by
    have := h.settleSum
    rw [Nat.add_mul]
    omega
  have free := h.unsuppressed (by simp [state])
  unfold settlingResult
  split
  · next last =>
    have all : l.settleSamples + 1 = cfg.delta.settleCount := Nat.le_antisymm samples last
    refine ⟨{ h with
      baseline := fun b hb => ?_
      lastReported := fun v hv => (Option.not_mem_none _ hv).elim
      settleSamples := settle
      settleSum := Nat.zero_le _
      driftCount := drift
      reverseCount := reverse
      admitted := by rw [delta]; rfl
      off := ⟨fun e => (by cases e), fun e => absurd (state.symm.trans (h.off.mpr e)) (by decide)⟩
      holds := rfl
      suppressed := fun e => absurd (free.symm.trans e) (by decide) }, rfl, by simp [Verdict.report]⟩
    cases hb
    exact Nat.div_le_of_le_mul (all ▸ sum)
  · next more =>
    exact ⟨{ h with settleSamples := Nat.lt_of_not_le more, settleSum := sum }, by rw [← state]; rfl,
      by rw [← state]; rfl⟩

theorem attemptActive_fits (delta : cfg.detector = .delta) (valid : cfg.valid = true) (h : l.Fits cfg) (signal : Int)
    {before : ChanState} (holds : before.hasBaseline = true) (apart : before.touched = false)
    (state : l.state = before) : (attemptActive cfg lockOpen signal l).Fits cfg lockOpen before := by
  obtain ⟨-, -, -, on, -⟩ := ChannelConfig.counts_of_valid valid
  subst state
  have notCalibrating := (Detector.admits_baseline delta holds).2.2
  have moved (st : ChanState) (hst : st.hasBaseline = true) :=
    h.clearSuppressed.detects delta (st := st) holds hst rfl
  unfold attemptActive
  split
  · next isOpen =>
    exact ⟨{ (moved .active rfl).setDebounce rfl (Nat.zero_le 15) with activeResults := Nat.zero_le _ }, ⟨rfl, isOpen⟩,
      by simp [notCalibrating]⟩
  · exact ⟨{ moved .arming rfl with debounce := on, suppressed := fun _ => ⟨rfl, rfl⟩ }, apart.symm,
      by simp [Verdict.quiet, notCalibrating]⟩

/-- An attempt at ACTIVE does not read the debounce count. -/
theorem attemptActive_debounce (cfg : ChannelConfig) (lockOpen : Bool) (signal : Int) (l : LiveState) (n : Nat) :
    attemptActive cfg lockOpen signal { l with debounce := n } = attemptActive cfg lockOpen signal l := rfl

theorem driftToward_le {step raw baseline : Nat} (hr : raw ≤ Config.rawMax) (hb : baseline ≤ Config.rawMax) :
    driftToward step raw baseline ≤ Config.rawMax := by
  unfold driftToward
  split <;> omega

theorem idleResult_fits (delta : cfg.detector = .delta) (valid : cfg.valid = true) (h : l.Fits cfg) {raw b : Nat}
    (hr : raw ≤ Config.rawMax) (signal : Int) (state : l.state = .idle) (baseline : l.baseline = some b) :
    (idleResult cfg lockOpen raw b signal l).Fits cfg lockOpen .idle := by
  obtain ⟨-, drift, reverse, -, -⟩ := ChannelConfig.counts_of_valid valid
  have free := h.unsuppressed (by simp [state])
  have hb := h.baseline b baseline
  have quiet {l' : LiveState} (fits : l'.Fits cfg) (same : l'.state = .idle) :
      (Verdict.quiet l').Fits cfg lockOpen .idle :=
    ⟨fits, congrArg ChanState.touched same, by rw [← same]; rfl⟩
  have holds : l.baseline.isSome = l.state.hasBaseline := h.holds
  unfold idleResult
  split
  · split
    · exact attemptActive_fits delta valid (l := { l with reverseCount := 0, debounce := 1 })
        { h.setDebounce free (Nat.le_add_left 1 14) with reverseCount := reverse } signal rfl rfl state
    · have moved := h.detects delta (st := .arming) (by rw [state]; rfl) rfl free
      exact ⟨{ moved.setDebounce free (Nat.le_add_left 1 14) with reverseCount := reverse }, rfl,
        by simp [Verdict.quiet]⟩
  · split
    · split
      · exact quiet { h with
          baseline := fun x hx => Option.some.inj hx ▸ hr
          reverseCount := reverse
          holds := by rw [← holds, baseline]; rfl } state
      · next more => exact quiet { h with reverseCount := Nat.lt_of_not_le more } state
    · split
      · exact quiet { h with
          baseline := fun x hx => Option.some.inj hx ▸ driftToward_le hr hb
          driftCount := drift
          reverseCount := reverse
          holds := by rw [← holds, baseline]; rfl } state
      · next more => exact quiet { h with reverseCount := reverse, driftCount := Nat.lt_of_not_le more } state

theorem armingResult_fits (delta : cfg.detector = .delta) (valid : cfg.valid = true) (h : l.Fits cfg) (signal : Int)
    (state : l.state = .arming) : (armingResult cfg lockOpen signal l).Fits cfg lockOpen .arming := by
  obtain ⟨-, -, -, on, -⟩ := ChannelConfig.counts_of_valid valid
  have attempt := attemptActive_fits (lockOpen := lockOpen) delta valid h signal rfl rfl state
  unfold armingResult
  split
  · split
    · exact attempt
    · next free =>
      split
      · rw [attemptActive_debounce]
        exact attempt
      · next more =>
        exact ⟨h.setDebounce (Bool.eq_false_iff.mpr free) (by omega), congrArg ChanState.touched state,
          by rw [← state]; rfl⟩
  · have moved := h.clearSuppressed.detects delta (st := .idle) (by rw [state]; rfl) rfl rfl
    exact ⟨moved.setDebounce rfl (Nat.zero_le 15), rfl, by simp [Verdict.quiet]⟩

theorem endTouch_fits (delta : cfg.detector = .delta) (valid : cfg.valid = true) (h : l.Fits cfg) (reason : Reason)
    (signal : Int) (touched : l.state.touched = true) : (endTouch reason signal l).Fits cfg lockOpen l.state := by
  obtain ⟨-, drift, reverse, -⟩ := ChannelConfig.counts_of_valid valid
  obtain ⟨holds, notArming, notCalibrating⟩ := ChanState.of_touched touched
  have free := h.unsuppressed notArming
  have moved := (h.detects delta (st := .idle) holds rfl free).setDebounce free (Nat.zero_le 15)
  exact ⟨{ moved with activeResults := Nat.zero_le _, driftCount := drift, reverseCount := reverse }, rfl,
    by simp [endTouch, notCalibrating]⟩

theorem judgeRelease_fits (delta : cfg.detector = .delta) (valid : cfg.valid = true) (h : l.Fits cfg) (signal : Int)
    (touched : l.state.touched = true) : (judgeRelease cfg signal l).Fits cfg lockOpen l.state := by
  obtain ⟨-, -, -, -, offs, -⟩ := ChannelConfig.counts_of_valid valid
  obtain ⟨holds, notArming, notCalibrating⟩ := ChanState.of_touched touched
  have free := h.unsuppressed notArming
  have moved (st : ChanState) (hst : st.hasBaseline = true) := h.detects delta (st := st) holds hst free
  have ended := endTouch_fits (lockOpen := lockOpen) delta valid h .release signal touched
  unfold judgeRelease
  split
  · split
    · next releasing =>
      split
      · exact ended
      · exact ⟨h.setDebounce free (by omega), rfl, Iff.rfl⟩
    · split
      · exact ended
      · exact ⟨(moved .releasing rfl).setDebounce free (Nat.le_add_left 1 14), touched.symm,
          by simp [Verdict.quiet, notCalibrating]⟩
  · exact ⟨(moved .active rfl).setDebounce free (Nat.zero_le 15), touched.symm,
      by simp [Verdict.quiet, notCalibrating]⟩

theorem touchedResult_fits (delta : cfg.detector = .delta) (valid : cfg.valid = true) (h : l.Fits cfg) {raw : Nat}
    (hr : raw ≤ Config.rawMax) (signal : Int) (touched : l.state.touched = true) :
    (touchedResult cfg raw signal l).Fits cfg lockOpen l.state := by
  obtain ⟨holds, -⟩ := ChanState.of_touched touched
  unfold touchedResult
  dsimp only
  split
  · exact endTouch_fits delta valid (l := { l with baseline := some raw })
      { h with baseline := fun x hx => Option.some.inj hx ▸ hr, holds := holds.symm } _ signal touched
  · exact judgeRelease_fits delta valid (l := { l with activeResults := bump l.activeResults })
      { h with activeResults := bump_le _ } signal touched

end

/-! ### Faults and quiet results (R82, R83, R95, R110, R116) -/

section
variable {cfg : ChannelConfig} {l : LiveState} {lockOpen : Bool}

theorem Verdict.quiet_fits (h : l.Fits cfg) : (Verdict.quiet l).Fits cfg lockOpen l.state := ⟨h, rfl, Iff.rfl⟩

theorem countFault_fits (valid : cfg.valid = true) (h : l.Fits cfg)
    (state : l.state ≠ .off ∧ l.state ≠ .calibrating) : (countFault cfg l).Fits cfg lockOpen l.state := by
  have on : cfg.enable ≠ false := fun e => state.1 (h.off.mpr e)
  unfold countFault
  split
  · refine ⟨LiveState.Fits.cleared valid ?_ ⟨fun e => (by cases e), fun e => absurd e on⟩ rfl, rfl,
      ⟨fun e => (by cases e), fun e => absurd e state.2⟩⟩
    cases cfg.detector <;> rfl
  · next more =>
    exact Verdict.quiet_fits (l := { l with faultCount := l.faultCount + 1 })
      { h with faultCount := Nat.lt_of_not_le more }

/-- A transition to a state without a baseline that is neither OFF nor CALIBRATING nor touched. -/
theorem Verdict.report_fits {l' : LiveState} (h : l'.Fits cfg)
    (before : l.state.touched = false ∧ l.state ≠ .calibrating)
    (after : l'.state.touched = false ∧ l'.state ≠ .calibrating) (reason : Reason) (value : Option Int) :
    (Verdict.report l' reason value).Fits cfg lockOpen l.state :=
  ⟨h, after.1.trans before.1.symm, ⟨fun e => absurd e after.2, fun e => absurd e before.2⟩⟩

theorem deltaValid_fits (delta : cfg.detector = .delta) (valid : cfg.valid = true) (h : l.Fits cfg) {raw : Nat}
    (hr : raw ≤ Config.rawMax) : (deltaValid cfg lockOpen raw l).Fits cfg lockOpen l.state := by
  unfold deltaValid
  split
  · next state => rw [state]; exact settlingResult_fits delta valid h hr state
  · next state baseline => rw [state]; exact idleResult_fits delta valid h hr _ state baseline
  · next state _ => rw [state]; exact armingResult_fits delta valid h _ state
  · next state _ => exact touchedResult_fits delta valid h hr _ (by rw [state]; rfl)
  · next state _ => exact touchedResult_fits delta valid h hr _ (by rw [state]; rfl)
  · next state =>
    have moved := h.moves (st := .settling) (by rw [delta]; rfl) (by simp [state]) (by rw [state]; rfl)
      (h.unsuppressed (by simp [state]))
    refine Verdict.report_fits ?_ (by simp [state, ChanState.touched]) (by simp [ChanState.touched]) _ _
    exact { moved with
      settleSum := Nat.zero_le _
      settleSamples := (ChannelConfig.counts_of_valid valid).1 }
  · exact Verdict.quiet_fits h

theorem deltaInvalid_fits (valid : cfg.valid = true) (h : l.Fits cfg) :
    (deltaInvalid cfg l).Fits cfg lockOpen l.state := by
  unfold deltaInvalid
  have counted := countFault_fits (lockOpen := lockOpen) valid h
  have quiet := Verdict.quiet_fits (lockOpen := lockOpen) h
  cases state : l.state with
  | settling | idle | arming | active | releasing =>
    rw [state] at counted
    exact counted (by decide)
  | off | calibrating | fault | unknown | inside | above | below | live =>
    rwa [state] at quiet

/-! ### WINDOW (R107 to R115) -/

theorem windowZone_fits (window : cfg.detector = .window) (valid : cfg.valid = true) (h : l.Fits cfg) (raw : Nat)
    (state : l.state = .unknown ∨ l.state = .inside ∨ l.state = .above ∨ l.state = .below) :
    (windowZone cfg raw l).Fits cfg lockOpen l.state := by
  obtain ⟨-, -, -, on, offs, -⟩ := ChannelConfig.counts_of_valid valid
  obtain ⟨notArming, notOff, untouched, notCalibrating, bare⟩ : l.state ≠ .arming ∧ l.state ≠ .off ∧
      l.state.touched = false ∧ l.state ≠ .calibrating ∧ l.state.hasBaseline = false := by
    rcases state with e | e | e | e <;> rw [e] <;> decide
  have free := h.unsuppressed notArming
  have limit : zoneLimit cfg l.state (zoneOf cfg.window l.state raw) ≤ 15 := by
    unfold zoneLimit
    split <;> assumption
  have zone (z : Zone) : Detector.admits .window z.state = true ∧ z.state ≠ .off ∧ z.state.touched = false ∧
      z.state ≠ .calibrating ∧ z.state.hasBaseline = false := by
    cases z <;> decide
  unfold windowZone
  dsimp only
  split
  · exact Verdict.quiet_fits (l := { l with candidate := none, debounce := 0 })
      ((h.setDebounce free (Nat.zero_le 15)).setCandidate none)
  · split
    · obtain ⟨admitted, notOff', untouched', notCalibrating', bare'⟩ := zone (zoneOf cfg.window l.state raw)
      have moved := h.moves (window ▸ admitted) ⟨notOff, notOff'⟩ (bare'.trans bare.symm) free
      exact Verdict.report_fits ((moved.setDebounce free (Nat.zero_le 15)).setCandidate none)
        ⟨untouched, notCalibrating⟩
        ⟨untouched', notCalibrating'⟩ _ _
    · next few =>
      have few := (Nat.lt_of_not_le few).le.trans limit
      exact Verdict.quiet_fits
        (l := { l with
          candidate := some (zoneOf cfg.window l.state raw)
          debounce := candidateCount (zoneOf cfg.window l.state raw) l })
        ((h.setDebounce free few).setCandidate _)

theorem windowValid_fits (window : cfg.detector = .window) (valid : cfg.valid = true) (h : l.Fits cfg) (raw : Nat) :
    (windowValid cfg raw l).Fits cfg lockOpen l.state := by
  unfold windowValid
  split
  · next state => exact windowZone_fits window valid h raw (.inl state)
  · next state => exact windowZone_fits window valid h raw (.inr (.inl state))
  · next state => exact windowZone_fits window valid h raw (.inr (.inr (.inl state)))
  · next state => exact windowZone_fits window valid h raw (.inr (.inr (.inr state)))
  · next state =>
    have free := h.unsuppressed (by simp [state])
    have moved := h.moves (st := .unknown) (by rw [window]; rfl) (by simp [state]) (by rw [state]; rfl) free
    exact Verdict.report_fits ((moved.setDebounce free (Nat.zero_le 15)).setCandidate none)
      (by simp [state, ChanState.touched]) (by simp [ChanState.touched]) _ _
  all_goals exact Verdict.quiet_fits h

theorem windowInvalid_fits (valid : cfg.valid = true) (h : l.Fits cfg) :
    (windowInvalid cfg l).Fits cfg lockOpen l.state := by
  unfold windowInvalid
  have counted := countFault_fits (lockOpen := lockOpen) valid h
  have quiet := Verdict.quiet_fits (lockOpen := lockOpen) h
  cases state : l.state with
  | unknown | inside | above | below =>
    rw [state] at counted
    exact counted (by decide)
  | off | settling | idle | arming | active | releasing | calibrating | fault | live =>
    rwa [state] at quiet

/-! ### NONE (R116) and the detector that the configuration selects (R5) -/

theorem plainValid_fits (plain : cfg.detector = .plain) (h : l.Fits cfg) :
    (plainValid l).Fits cfg lockOpen l.state := by
  unfold plainValid
  split
  · next state =>
    have moved := h.moves (st := .live) (by rw [plain]; rfl) (by simp [state]) (by rw [state]; rfl)
      (h.unsuppressed (by simp [state]))
    exact Verdict.report_fits moved (by simp [state, ChanState.touched]) (by simp [ChanState.touched]) _ _
  all_goals exact Verdict.quiet_fits h

theorem plainInvalid_fits (valid : cfg.valid = true) (h : l.Fits cfg) :
    (plainInvalid cfg l).Fits cfg lockOpen l.state := by
  unfold plainInvalid
  have counted := countFault_fits (lockOpen := lockOpen) valid h
  have quiet := Verdict.quiet_fits (lockOpen := lockOpen) h
  cases state : l.state with
  | live =>
    rw [state] at counted
    exact counted (by decide)
  | off | settling | idle | arming | active | releasing | calibrating | fault | unknown | inside | above | below =>
    rwa [state] at quiet

/-- The verdict of every detector on every reading fits. -/
theorem detect_fits (valid : cfg.valid = true) (h : l.Fits cfg) {r : Reading}
    (hr : ∀ raw ∈ r.raw, raw ≤ Config.rawMax) : (detect cfg lockOpen r l).Fits cfg lockOpen l.state := by
  have cleared := h.clearFaults valid
  unfold detect
  cases r with
  | value raw =>
    have hr := hr raw rfl
    split
    · next delta => exact deltaValid_fits delta valid cleared hr
    · next window => exact windowValid_fits window valid cleared raw
    · next plain => exact plainValid_fits plain cleared
  | noSignal | overrange =>
    split
    · exact deltaInvalid_fits valid h
    · exact windowInvalid_fits valid h
    · exact plainInvalid_fits valid h

end

end Sys2Proof.Machine
end

section
/-! The channels and the locks: what a change of one channel needs to keep every channel to its detector and every
lock to its holder, and the changes that the tracker, the calibrations and SET_CHANNEL make (R8 to R18, R79 to R104).
-/

namespace Sys2Proof.Machine

/-- Every channel holds a valid configuration and a live state that fits it, and the locks are held by the touched
channels of their groups (R2 to R11, R79, R100, R103). -/
structure State.ChannelsOk (s : State) : Prop where
  valid : s.ConfigsValid
  fits : ∀ c : ChanId, s.channels[c].live.Fits s.channels[c].config
  locks : s.LocksSound

theorem State.Sound.channelsOk {s : State} (h : s.Sound) : s.ChannelsOk where
  valid := h.configsValid
  fits c := (LiveState.fits_iff _ _).mpr ⟨h.livesInRange c, h.channelsSound c, h.suppressedSound c⟩
  locks := h.locksSound

theorem State.ChannelsOk.of_same {s t : State} (h : s.ChannelsOk) (channels : t.channels = s.channels)
    (locks : t.locks = s.locks) : t.ChannelsOk := by
  obtain ⟨valid, fits, lock⟩ := h
  refine ⟨fun c => ?_, fun c => ?_, fun g c => ?_⟩
  · rw [channels]
    exact valid c
  · rw [channels]
    exact fits c
  · rw [channels, locks]
    exact lock g c

/-- Whether a lock action on channel c agrees with the channel that the change leaves (R91, R100, R102). -/
def LockAction.agrees (a : LockAction) (before after : Channel) (isOpen : Bool) : Prop :=
  match a with
  | .keep => after.config.delta.group = before.config.delta.group ∧ after.live.state.touched = before.live.state.touched
  | .take => after.config.delta.group = before.config.delta.group ∧ after.live.state.touched = true ∧ isOpen = true
  | .free => after.live.state.touched = false

theorem set_channel (xs : Vector Channel 24) (c d : ChanId) (x : Channel) :
    (xs.set c x)[d] = if c = d then x else xs[d] := getElem_set_fin _ _ _ _

/-- A change of one channel and of its lock keeps the locks with their holders. -/
theorem locksSound_change {s t : State} (h : s.LocksSound) {c : ChanId} {ch : Channel} {a : LockAction}
    (agrees : a.agrees s.channels[c] ch (lockOpenFor c s.channels[c].config.delta.group s.locks))
    (channels : t.channels = s.channels.set c ch)
    (locks : t.locks = a.apply c s.channels[c].config.delta.group s.locks) : t.LocksSound := by
  intro g d
  rw [locks, LockAction.apply_get, channels, set_channel]
  have own := h g c
  have other := h g d
  by_cases e : c = d
  · subst e
    rw [if_pos rfl]
    cases a with
    | keep => simpa [agrees.1, agrees.2] using own
    | take =>
      obtain ⟨group, touched, -⟩ := agrees
      by_cases hg : s.channels[c].config.delta.group = some g
      · rw [if_pos hg, group]
        exact ⟨fun _ => ⟨hg, touched⟩, fun _ => rfl⟩
      · rw [if_neg hg, group]
        exact ⟨fun held => absurd (own.mp held).1 hg, fun named => absurd named.1 hg⟩
    | free =>
      have untouched : ch.live.state.touched = false := agrees
      simp only [untouched, Bool.false_eq_true, and_false, iff_false]
      by_cases hg : s.channels[c].config.delta.group = some g
      · rw [if_pos hg]
        split
        · exact fun e => by cases e
        · assumption
      · rw [if_neg hg]
        exact fun held => hg (own.mp held).1
  · rw [if_neg e, ← other]
    by_cases hg : s.channels[c].config.delta.group = some g
    · rw [if_pos hg]
      cases a with
      | keep => exact Iff.rfl
      | take =>
        obtain ⟨-, -, isOpen⟩ := agrees
        rw [lockOpenFor_eq, hg] at isOpen
        have isOpen := of_decide_eq_true isOpen
        constructor
        · exact fun held => absurd (Option.some.inj held) e
        · intro held
          rw [held] at isOpen
          rcases isOpen with free | own
          · cases free
          · exact absurd (Option.some.inj own).symm e
      | free =>
        dsimp only
        split
        · next held =>
          rw [held]
          exact ⟨fun e => (by cases e), fun own => absurd (Option.some.inj own) e⟩
        · exact Iff.rfl
    · rw [if_neg hg]

/-- A change of one channel that fits, and of its lock in agreement, keeps all channels and locks. -/
theorem State.ChannelsOk.change {s t : State} (h : s.ChannelsOk) {c : ChanId} {ch : Channel} {a : LockAction}
    (channels : t.channels = s.channels.set c ch)
    (locks : t.locks = a.apply c s.channels[c].config.delta.group s.locks) (valid : ch.config.valid = true)
    (fits : ch.live.Fits ch.config)
    (agrees : a.agrees s.channels[c] ch (lockOpenFor c s.channels[c].config.delta.group s.locks)) : t.ChannelsOk := by
  refine ⟨fun d => ?_, fun d => ?_, locksSound_change h.locks agrees channels locks⟩
  · rw [channels, set_channel]
    split
    · exact valid
    · exact h.valid d
  · rw [channels, set_channel]
    split
    · exact fits
    · exact h.fits d

/-! ### Results (R10, R81, R109, R117 to R119) -/

theorem signalOf_natAbs_le {d : Direction} {b raw : Nat} (hb : b ≤ Config.rawMax) (hr : raw ≤ Config.rawMax) :
    (signalOf d b raw).natAbs ≤ Config.rawMax := by
  cases d <;> simp only [signalOf] <;> omega

theorem LiveState.Fits.withLast {cfg : ChannelConfig} {l : LiveState} (h : l.Fits cfg) {r : Reading}
    (hr : ∀ raw ∈ r.raw, raw ≤ Config.rawMax) : (l.withLast cfg r).Fits cfg :=
  { h with
    lastRaw := hr
    lastSignal := fun v hv => by
      obtain ⟨raw, hraw, hv⟩ := Option.bind_eq_some_iff.mp hv
      obtain ⟨b, hb, rfl⟩ := Option.map_eq_some_iff.mp hv
      exact signalOf_natAbs_le (h.baseline b hb) (hr raw hraw) }

theorem LiveState.Fits.compared {cfg : ChannelConfig} {l : LiveState} (h : l.Fits cfg) :
    ∀ v ∈ l.compared, v.natAbs ≤ Config.rawMax := by
  intro v hv
  unfold LiveState.compared at hv
  split at hv
  · next w hw => exact h.lastSignal v (hw.trans hv)
  · cases hraw : l.lastRaw with
    | none => simp [hraw] at hv
    | some raw =>
      obtain rfl : (raw : Int) = v := by simpa [hraw] using hv
      exact h.lastRaw raw hraw

theorem LiveState.Fits.reported {cfg : ChannelConfig} {l : LiveState} (h : l.Fits cfg) (placed : Bool) :
    (l.reported placed).Fits cfg := by
  unfold LiveState.reported
  split
  · split
    · next v hv => exact { h with lastReported := fun w hw => Option.some.inj hw ▸ h.compared v hv }
    · exact h
  · exact h

theorem LiveState.reported_state (placed : Bool) (l : LiveState) : (l.reported placed).state = l.state := by
  unfold LiveState.reported
  split
  · split <;> rfl
  · rfl

/-- A scan result changes the live state of its channel, and its lock by the verdict. -/
theorem State.trackResult_change (c : ChanId) (round : Nat) (r : Reading) (s : State) :
    ∃ placed : Bool, ∃ l, (l = s.judged c r ∨ l = (s.judged c r).reported placed) ∧
      (s.trackResult c round r).channels = s.channels.set c { s.channels[c] with live := l } ∧
      (s.trackResult c round r).locks =
        (s.verdict c r).lock.apply c s.channels[c].config.delta.group s.locks := by
  rw [s.trackResult_eq]
  split
  · exact ⟨_, _, .inr rfl, rfl, rfl⟩
  · exact ⟨false, _, .inl rfl, rfl, rfl⟩

/-- The tracker keeps the channels and the locks, and begins and ends no calibration. -/
theorem State.ChannelsOk.trackResult {s : State} (h : s.ChannelsOk) (c : ChanId) (round : Nat) {r : Reading}
    (hr : ∀ raw ∈ r.raw, raw ≤ Config.rawMax) :
    (s.trackResult c round r).ChannelsOk ∧
      ∀ d : ChanId, (s.trackResult c round r).channels[d].live.state = .calibrating ↔
        s.channels[d].live.state = .calibrating := by
  obtain ⟨placed, l, hl, channels, locks⟩ := s.trackResult_change c round r
  obtain ⟨live, lock, calibrating⟩ : (s.verdict c r).Fits s.channels[c].config
      (lockOpenFor c s.channels[c].config.delta.group s.locks) s.channels[c].live.state :=
    detect_fits (h.valid c) (h.fits c) hr
  have fits : l.Fits s.channels[c].config := by
    rcases hl with rfl | rfl
    · exact live.withLast hr
    · exact (live.withLast hr).reported placed
  have state : l.state = (s.verdict c r).live.state := by
    rcases hl with rfl | rfl
    · rfl
    · exact LiveState.reported_state _ _
  refine ⟨h.change channels locks (h.valid c) fits ?_, fun d => ?_⟩
  · unfold LockAction.agrees
    cases ha : (s.verdict c r).lock <;> rw [ha] at lock <;> simp only [state]
    · exact ⟨trivial, lock⟩
    · exact ⟨trivial, lock⟩
    · exact lock
  · rw [channels, set_channel]
    split
    · next e =>
      subst e
      rw [← calibrating, ← state]
    · exact Iff.rfl

/-! ### Calibrations and configurations (R12, R17, R18, R96 to R99) -/

theorem State.addStateRecord_parts (c : ChanId) (round : Option Nat) (previous next : ChanState) (reason : Reason)
    (value : Option Int) (s : State) :
    (s.addStateRecord c round previous next reason value).channels = s.channels ∧
      (s.addStateRecord c round previous next reason value).locks = s.locks := by
  unfold State.addStateRecord
  split <;> exact ⟨rfl, rfl⟩

theorem State.startCalibration_parts (c : ChanId) (s : State) :
    (s.startCalibration c).channels =
        s.channels.set c { s.channels[c] with live := LiveState.cleared .calibrating } ∧
      (s.startCalibration c).locks = LockAction.free.apply c s.channels[c].config.delta.group s.locks :=
  State.addStateRecord_parts _ _ _ _ _ _ _

theorem State.endCalibration_parts (c : ChanId) (baseline : Nat) (s : State) :
    (s.endCalibration c baseline).channels = s.channels.set c { s.channels[c] with live := { s.channels[c].live with
        state := .idle, baseline := some baseline, debounce := 0, activeResults := 0, driftCount := 0
        reverseCount := 0, faultCount := 0, suppressed := false } } ∧
      (s.endCalibration c baseline).locks = LockAction.keep.apply c s.channels[c].config.delta.group s.locks :=
  State.addStateRecord_parts _ _ _ _ _ _ _

theorem State.failCalibration_parts (c : ChanId) (s : State) :
    (s.failCalibration c).channels = s.channels.set c { s.channels[c] with live := LiveState.cleared .fault } ∧
      (s.failCalibration c).locks = LockAction.free.apply c s.channels[c].config.delta.group s.locks :=
  State.addStateRecord_parts _ _ _ _ _ _ _

theorem State.abortCalibration_parts (c : ChanId) (s : State) :
    (s.abortCalibration c).channels = s.channels.set c { s.channels[c] with live := { s.channels[c].live with
        state := .settling, settleSum := 0, settleSamples := 0 } } ∧
      (s.abortCalibration c).locks = LockAction.keep.apply c s.channels[c].config.delta.group s.locks :=
  State.addStateRecord_parts _ _ _ _ _ _ _

namespace State.ChannelsOk

variable {s : State}

theorem startCalibration (h : s.ChannelsOk) {c : ChanId} (delta : s.channels[c].config.detector = .delta)
    (on : s.channels[c].live.state ≠ .off) : (s.startCalibration c).ChannelsOk := by
  obtain ⟨channels, locks⟩ := s.startCalibration_parts c
  refine h.change (a := .free) channels locks (h.valid c) ?_ rfl
  exact .cleared (h.valid c) (by rw [delta]; rfl)
    ⟨fun e => (by cases e), fun e => absurd ((h.fits c).off.mpr e) on⟩ rfl

/-- A channel that calibrates has the DELTA detector and is enabled (R8, R96). -/
theorem calibrates (h : s.ChannelsOk) {c : ChanId} (state : s.channels[c].live.state = .calibrating) :
    s.channels[c].config.detector = .delta ∧ s.channels[c].config.enable = true := by
  have admitted := (h.fits c).admitted
  have off := (h.fits c).off
  rw [state] at admitted off
  refine ⟨?_, by simpa using off⟩
  cases detector : s.channels[c].config.detector with
  | delta => rfl
  | plain | window =>
    rw [detector] at admitted
    cases admitted

theorem endCalibration (h : s.ChannelsOk) {c : ChanId} (state : s.channels[c].live.state = .calibrating)
    {baseline : Nat} (hb : baseline ≤ Config.rawMax) : (s.endCalibration c baseline).ChannelsOk := by
  obtain ⟨channels, locks⟩ := s.endCalibration_parts c baseline
  obtain ⟨delta, enable⟩ := h.calibrates state
  obtain ⟨-, drift, reverse, -, -, fault⟩ := ChannelConfig.counts_of_valid (h.valid c)
  refine h.change (a := .keep) channels locks (h.valid c) ?_ ⟨rfl, by rw [state]; rfl⟩
  exact { h.fits c with
    baseline := fun b e => Option.some.inj e ▸ hb
    debounce := Nat.zero_le _
    activeResults := Nat.zero_le _
    driftCount := drift
    reverseCount := reverse
    faultCount := fault
    admitted := by rw [delta]; rfl
    off := ⟨fun e => (by cases e), fun e => absurd (e.symm.trans enable) (by decide)⟩
    holds := rfl
    suppressed := fun e => by cases e }

theorem failCalibration (h : s.ChannelsOk) {c : ChanId} (state : s.channels[c].live.state = .calibrating) :
    (s.failCalibration c).ChannelsOk := by
  obtain ⟨channels, locks⟩ := s.failCalibration_parts c
  obtain ⟨delta, enable⟩ := h.calibrates state
  refine h.change (a := .free) channels locks (h.valid c) ?_ rfl
  exact .cleared (h.valid c) (by rw [delta]; rfl)
    ⟨fun e => (by cases e), fun e => absurd (e.symm.trans enable) (by decide)⟩ rfl

theorem abortCalibration (h : s.ChannelsOk) {c : ChanId} (state : s.channels[c].live.state = .calibrating) :
    (s.abortCalibration c).ChannelsOk := by
  obtain ⟨channels, locks⟩ := s.abortCalibration_parts c
  obtain ⟨delta, enable⟩ := h.calibrates state
  obtain ⟨settle, -⟩ := ChannelConfig.counts_of_valid (h.valid c)
  have moved := (h.fits c).moves (st := .settling) (by rw [delta]; rfl)
    ⟨fun e => (by rw [state] at e; cases e), fun e => (by cases e)⟩ (by rw [state]; rfl)
    ((h.fits c).unsuppressed fun e => by rw [state] at e; cases e)
  refine h.change (a := .keep) channels locks (h.valid c) ?_ ⟨rfl, by rw [state]; rfl⟩
  exact { moved with settleSum := Nat.zero_le _, settleSamples := settle }

/-- The initial state of a configuration is a state of its detector without a baseline, not touched (R8). -/
theorem initialState_parts (k : ChannelConfig) :
    k.detector.admits k.initialState = true ∧ (k.initialState = .off ↔ k.enable = false) ∧
      k.initialState.hasBaseline = false ∧ k.initialState.touched = false ∧ k.initialState ≠ .calibrating := by
  unfold ChannelConfig.initialState
  cases k.enable <;> cases k.detector <;> simp [Detector.admits, ChanState.hasBaseline, ChanState.touched]

/-- The old detection settled and the new configuration written (R12, R17, R18). -/
theorem reconfigured (h : s.ChannelsOk) (c : ChanId) {k : ChannelConfig} (valid : k.valid = true) :
    ((s.settleOldDetection c k).writeConfig c k).ChannelsOk := by
  obtain ⟨admitted, off, bare, untouched, -⟩ := initialState_parts k
  have parts : (s.settleOldDetection c k).channels = s.channels ∧
      (s.settleOldDetection c k).locks = LockAction.free.apply c s.channels[c].config.delta.group s.locks := by
    unfold State.settleOldDetection
    dsimp only
    split
    · exact State.addStateRecord_parts _ _ _ _ _ _ _
    · exact ⟨rfl, rfl⟩
  obtain ⟨channels, locks⟩ := parts
  exact h.change (a := .free) (c := c) (ch := { config := k, live := LiveState.cleared k.initialState })
    (by simp only [State.writeConfig, channels]) locks valid (.cleared valid admitted off bare) untouched

end State.ChannelsOk

end Sys2Proof.Machine
end

section
/-! The operations table: replacing, closing and removing an operation, the entry after a sample, and the calibrations
that the table counts (R96, R123, R131 to R135). -/

namespace Sys2Proof.Machine

/-! ### The first PENDING entry (R133) -/

theorem firstPending_append {xs : List OpEntry} (h : ∀ e ∈ xs, e.isPending = false) (i : Nat) (ys : List OpEntry) :
    firstPending i (xs ++ ys) = firstPending (i + xs.length) ys := by
  induction xs generalizing i with
  | nil => rfl
  | cons x xs ih =>
    have rest := ih (fun e he => h e (List.mem_cons_of_mem _ he)) (i + 1)
    rw [List.cons_append, firstPending, h x List.mem_cons_self, if_neg (by decide), rest, List.length_cons]
    congr 1
    omega

theorem firstPending_none {i : Nat} {xs : List OpEntry} :
    firstPending i xs = none ↔ ∀ e ∈ xs, e.isPending = false := by
  induction xs generalizing i with
  | nil => simp [firstPending]
  | cons x xs ih =>
    unfold firstPending
    cases hx : x.isPending <;> simp [hx, ih]

/-- The first PENDING entry, and what stands before it. -/
theorem firstPending_some {i k : Nat} {xs : List OpEntry} (h : firstPending i xs = some k) :
    ∃ n e, k = i + n ∧ xs[n]? = some e ∧ e.isPending = true ∧ ∀ x ∈ xs.take n, x.isPending = false := by
  induction xs generalizing i with
  | nil => cases h
  | cons x xs ih =>
    unfold firstPending at h
    split at h
    · next hx =>
      cases h
      exact ⟨0, x, rfl, rfl, hx, fun y hy => by cases hy⟩
    · next hx =>
      obtain ⟨n, e, rfl, he, pending, before⟩ := ih h
      refine ⟨n + 1, e, by omega, he, pending, fun y hy => ?_⟩
      rcases List.mem_cons.mp hy with rfl | hy
      · exact Bool.eq_false_iff.mpr hx
      · exact before y hy

/-- With nothing PENDING up to an entry, the first PENDING entry is the first behind it. -/
theorem firstPending_behind {xs : List OpEntry} {n : Nat} (inside : n < xs.length)
    (h : ∀ e ∈ xs.take (n + 1), e.isPending = false) : firstPending 0 xs = firstPending (n + 1) (xs.drop (n + 1)) := by
  conv_lhs => rw [← List.take_append_drop (n + 1) xs]
  rw [firstPending_append h, List.length_take, Nat.zero_add, Nat.min_eq_left inside]

/-- What makes one operation a sound one: its samples, entries and tallies, and its current entry (R123, R133). -/
def Operation.Sound (o : Operation) : Prop := o.fits = true ∧ firstPending 0 o.entries = some o.current

/-! ### Calibrations that the table counts (R96) -/

/-- PENDING entries of one operation that calibrate a channel. -/
def Operation.calibrations (o : Operation) (c : ChanId) : Nat :=
  if o.kind = .calibrate then o.entries.countP fun x => x.isPending && x.channel == c else 0

namespace OpEngine

variable {e : OpEngine}

theorem calibrations_eq (e : OpEngine) (c : ChanId) :
    e.calibrations c = (e.table.map fun o => o.calibrations c).sum := by
  unfold OpEngine.calibrations
  induction e.table with
  | nil => rfl
  | cons o os ih =>
    cases hk : o.kind with
    | calibrate => simp_all [Operation.calibrations]
    | measure => simp_all [Operation.calibrations]

/-- An operation and the others of its table. -/
theorem Fits.perm (h : e.Fits) {o : Operation} (ho : o ∈ e.table) : e.table.Perm (o :: (e.remove o.opId).table) := by
  obtain ⟨pre, post, split⟩ := List.append_of_mem ho
  have distinct := h.2.1
  rw [split, List.map_append, List.map_cons, List.nodup_append, List.nodup_cons] at distinct
  obtain ⟨-, ⟨notPost, -⟩, apart⟩ := distinct
  have pre_other : pre.filter (fun p => p.opId != o.opId) = pre :=
    List.filter_eq_self.mpr fun p hp => by
      simpa using apart p.opId (List.mem_map_of_mem hp) o.opId List.mem_cons_self
  have post_other : post.filter (fun p => p.opId != o.opId) = post :=
    List.filter_eq_self.mpr fun p hp => by
      simpa using fun same : p.opId = o.opId => notPost (same ▸ List.mem_map_of_mem hp)
  unfold OpEngine.remove
  rw [split, List.filter_append, List.filter_cons_of_neg (by simp), pre_other, post_other]
  exact List.perm_middle

theorem Fits.perm_update (h : e.Fits) {o o' : Operation} (ho : o ∈ e.table) (id : o'.opId = o.opId) :
    (e.update o').table.Perm (o' :: (e.remove o.opId).table) := by
  have mapped := (h.perm ho).map fun p => if p.opId == o'.opId then o' else p
  refine mapped.trans ?_
  rw [List.map_cons, if_pos (by simp [id])]
  refine .cons _ (.of_eq ?_)
  conv_rhs => rw [← List.map_id (e.remove o.opId).table]
  refine List.map_congr_left fun p hp => ?_
  have other : p.opId ≠ o.opId := by simpa [OpEngine.remove] using (List.mem_filter.mp hp).2
  rw [if_neg (by simpa [id] using other)]
  rfl

theorem calibrations_remove (h : e.Fits) {o : Operation} (ho : o ∈ e.table) (c : ChanId) :
    o.calibrations c + (e.remove o.opId).calibrations c = e.calibrations c := by
  rw [calibrations_eq, calibrations_eq, ((h.perm ho).map _).sum_eq, List.map_cons, List.sum_cons]

theorem calibrations_update (h : e.Fits) {o o' : Operation} (ho : o ∈ e.table) (id : o'.opId = o.opId) (c : ChanId) :
    (e.update o').calibrations c + o.calibrations c = e.calibrations c + o'.calibrations c := by
  have removed := calibrations_remove h ho c
  rw [calibrations_eq (e.update o'), ((h.perm_update ho id).map _).sum_eq, List.map_cons, List.sum_cons,
    ← calibrations_eq]
  omega

/-! ### Sound tables (R123, R124, R133) -/

theorem Sound.operation (h : e.Sound) {o : Operation} (ho : o ∈ e.table) : o.Sound := ⟨h.2.2 o ho, h.2.1 o ho⟩

theorem Sound.remove (h : e.Sound) (id : Nat) : (e.remove id).Sound := by
  obtain ⟨⟨length, distinct, ids, low, high⟩, current, tallies⟩ := h
  have sub (o : Operation) (ho : o ∈ (e.remove id).table) : o ∈ e.table := List.mem_of_mem_filter ho
  exact ⟨⟨(List.length_filter_le _ _).trans length, List.Nodup.sublist (List.filter_sublist.map _) distinct,
    fun o ho => ids o (sub o ho), low, high⟩, fun o ho => current o (sub o ho), fun o ho => tallies o (sub o ho)⟩

theorem Sound.update (h : e.Sound) {o o' : Operation} (ho : o ∈ e.table) (id : o'.opId = o.opId) (sound : o'.Sound) :
    (e.update o').Sound := by
  obtain ⟨⟨length, distinct, ids, low, high⟩, current, tallies⟩ := h
  have fits : e.Fits := ⟨length, distinct, ids, low, high⟩
  have present : ∃ p ∈ e.table, p.opId = o'.opId := ⟨o, ho, id.symm⟩
  have sameIds : (e.update o').table.map Operation.opId = e.table.map Operation.opId :=
    fits.map_update ho id _ id
  refine ⟨⟨?_, ?_, fun p hp => ?_, low, high⟩, fun p hp => ?_, fun p hp => ?_⟩
  · simpa [OpEngine.update] using length
  · rwa [sameIds]
  · rcases (mem_update present).mp hp with rfl | ⟨hp, -⟩
    · rw [id]
      exact ids o ho
    · exact ids p hp
  · rcases (mem_update present).mp hp with rfl | ⟨hp, -⟩
    · exact sound.2
    · exact current p hp
  · rcases (mem_update present).mp hp with rfl | ⟨hp, -⟩
    · exact sound.1
    · exact tallies p hp

/-! ### An operation with an entry ended (R133) -/

/-- The table after an operation has moved on to its first PENDING entry, or has left where it has none. -/
def advance (o : Operation) (e : OpEngine) : OpEngine :=
  match firstPending 0 o.entries with
  | some i => e.update { o with current := i }
  | none => e.remove o.opId

theorem update_update (e : OpEngine) {o o' : Operation} (id : o'.opId = o.opId) :
    (e.update o).update o' = e.update o' := by
  unfold OpEngine.update
  simp only [List.map_map, OpEngine.mk.injEq, and_true]
  refine List.map_congr_left fun p _ => ?_
  by_cases same : p.opId = o.opId
  · simp [same, id]
  · simp [same]

theorem update_remove (e : OpEngine) (o : Operation) : (e.update o).remove o.opId = e.remove o.opId := by
  unfold OpEngine.update OpEngine.remove
  simp only [OpEngine.mk.injEq, and_true, List.filter_map]
  conv_rhs => rw [← List.map_id (e.table.filter _)]
  have same : ((fun p : Operation => p.opId != o.opId) ∘ fun p => if p.opId == o.opId then o else p) =
      fun p => p.opId != o.opId := by
    funext p
    by_cases id : p.opId = o.opId <;> simp [id]
  rw [same]
  refine List.map_congr_left fun p hp => ?_
  have other := (List.mem_filter.mp hp).2
  rw [if_neg (by simpa using other)]
  rfl

theorem advance_update (e : OpEngine) (o : Operation) : (e.update o).advance o = e.advance o := by
  unfold advance
  split
  · exact update_update e rfl
  · exact update_remove e o

theorem Sound.advance (h : e.Sound) {p o : Operation} (hp : p ∈ e.table) (id : o.opId = p.opId) (fits : o.fits = true) :
    (e.advance o).Sound := by
  unfold OpEngine.advance
  split
  · next i first => exact h.update hp id ⟨fits, first⟩
  · exact h.remove _

theorem calibrations_advance (h : e.Fits) {p o : Operation} (hp : p ∈ e.table) (id : o.opId = p.opId) (c : ChanId) :
    (e.advance o).calibrations c + p.calibrations c = e.calibrations c + o.calibrations c := by
  unfold OpEngine.advance
  split
  · next i _ => exact calibrations_update h hp (o' := { o with current := i }) id c
  · next none =>
    have ended : o.calibrations c = 0 := by
      unfold Operation.calibrations
      split
      · rw [List.countP_eq_zero]
        intro x hx
        simp [firstPending_none.mp none x hx]
      · rfl
    have removed := calibrations_remove h hp c
    rw [id, ended]
    omega

end OpEngine

/-- An operation without a job leaves the table. -/
theorem OpJobs.remove {e : OpEngine} {xs : List Job} {id : Nat} (none : xs.countP (Job.ofOp id) = 0)
    (counts : ∀ p ∈ e.table, p.opId ≠ id → xs.countP (Job.ofOp p.opId) = p.outstanding.toNat)
    (owned : ∀ j ∈ xs, j.isOp = true → ∃ p ∈ e.table, j.samples p = true) : OpJobs (e.remove id) xs := by
  refine ⟨fun p hp => ?_, fun j hj op => ?_⟩
  · obtain ⟨hp, other⟩ := List.mem_filter.mp hp
    exact counts p hp (by simpa using other)
  · obtain ⟨p, hp, hs⟩ := owned j hj op
    exact ⟨p, List.mem_filter.mpr ⟨hp, by simpa using OpJobs.samples_other none hj hs⟩, hs⟩

theorem OpJobs.advance {e : OpEngine} {xs : List Job} {p o : Operation} (hp : p ∈ e.table) (id : o.opId = p.opId)
    (idle : o.outstanding = false) (none : xs.countP (Job.ofOp p.opId) = 0)
    (counts : ∀ q ∈ e.table, q.opId ≠ p.opId → xs.countP (Job.ofOp q.opId) = q.outstanding.toNat)
    (owned : ∀ j ∈ xs, j.isOp = true → ∃ q ∈ e.table, j.samples q = true) : OpJobs (e.advance o) xs := by
  unfold OpEngine.advance
  split
  · exact OpJobs.update hp id idle none counts owned
  · rw [id]
    exact OpJobs.remove none counts owned

/-- The engine's part of moving on, where nothing is PENDING up to the current entry (R133). -/
theorem State.moveOn_ops {o : Operation} (inside : o.current < o.entries.length)
    (ended : ∀ e ∈ o.entries.take (o.current + 1), e.isPending = false) (s : State) :
    s.moveOn o =
      if firstPending 0 o.entries = none then
        State.addRecord (o.doneRecord false) { s with ops := s.ops.advance o }
      else { s with ops := s.ops.advance o } := by
  unfold State.moveOn OpEngine.advance
  rw [← firstPending_behind inside ended]
  cases firstPending 0 o.entries <;> rfl

/-! ### Entries after a sample (R131, R132) -/

theorem OpEntry.fits_iff (n : Nat) (e : OpEntry) :
    e.fits n = true ↔ e.valid ≤ e.taken ∧ e.taken ≤ n ∧ (e.isPending = true → e.taken < n) ∧
      e.sum ≤ e.valid * Config.rawMax ∧ (e.minMax = none → e.valid = 0) ∧
      ∀ x ∈ e.minMax, 0 < e.valid ∧ x.1 ≤ x.2 ∧ x.2 ≤ Config.rawMax := by
  have pending : (!e.isPending || decide (e.taken < n)) = true ↔ (e.isPending = true → e.taken < n) := by
    cases e.isPending <;> simp
  unfold OpEntry.fits
  rw [Bool.and_eq_true, Bool.and_eq_true, Bool.and_eq_true, pending]
  cases e.minMax with
  | none => simp [and_assoc]
  | some x => simp [and_assoc]

theorem OpEntry.fresh_fits (c : ChanId) {n : Nat} (h : 1 ≤ n) : (OpEntry.fresh c).fits n = true := by
  rw [OpEntry.fits_iff]
  simp only [OpEntry.fresh]
  exact ⟨Nat.le_refl _, Nat.zero_le _, fun _ => h, Nat.zero_le _, fun _ => trivial, fun x hx => by cases hx⟩

end Sys2Proof.Machine
end

section
/-! Samples: what the engine makes of the result of an operation job keeps the books, the channels and the calibrations
(R96 to R98, R130 to R134). -/

namespace Sys2Proof.Machine

/-! ### The tallies of an entry (R131, R132) -/

/-- The tallies of an entry whatever its outcome: among themselves and below the samples per channel (R123). -/
def OpEntry.Tallied (n : Nat) (e : OpEntry) : Prop :=
  e.valid ≤ e.taken ∧ e.taken ≤ n ∧ e.sum ≤ e.valid * Config.rawMax ∧ (e.minMax = none → e.valid = 0) ∧
    ∀ x ∈ e.minMax, 0 < e.valid ∧ x.1 ≤ x.2 ∧ x.2 ≤ Config.rawMax

theorem OpEntry.fits_iff_tallied (n : Nat) (e : OpEntry) :
    e.fits n = true ↔ e.Tallied n ∧ (e.isPending = true → e.taken < n) := by
  rw [OpEntry.fits_iff, OpEntry.Tallied]
  tauto

theorem widen_fits {raw : Nat} (hr : raw ≤ Config.rawMax) {m : Option (Nat × Nat)}
    (h : ∀ x ∈ m, x.1 ≤ x.2 ∧ x.2 ≤ Config.rawMax) : ∀ x ∈ widen raw m, x.1 ≤ x.2 ∧ x.2 ≤ Config.rawMax := by
  cases m with
  | none =>
    intro x hx
    cases hx
    exact ⟨Nat.le_refl _, hr⟩
  | some y =>
    obtain ⟨low, high⟩ := h y rfl
    intro x hx
    cases hx
    dsimp only
    omega

theorem widen_ne_none (raw : Nat) (m : Option (Nat × Nat)) : widen raw m ≠ none := by
  cases m <;> simp [widen]

theorem OpEntry.tally_parts (r : Reading) (e : OpEntry) :
    (e.tally r).channel = e.channel ∧ (e.tally r).outcome = e.outcome ∧ (e.tally r).taken = e.taken + 1 := by
  cases r <;> exact ⟨rfl, rfl, rfl⟩

theorem OpEntry.tallied_tally {n : Nat} {e : OpEntry} (h : e.Tallied n) (more : e.taken < n) {r : Reading}
    (hr : ∀ raw ∈ r.raw, raw ≤ Config.rawMax) : (e.tally r).Tallied n := by
  obtain ⟨valid, -, sum, none, minMax⟩ := h
  cases r with
  | value raw =>
    have hr := hr raw rfl
    refine ⟨Nat.succ_le_succ valid, more, ?_, fun e => absurd e (widen_ne_none _ _), fun x hx => ?_⟩
    · show e.sum + raw ≤ (e.valid + 1) * Config.rawMax
      rw [Nat.add_mul]
      omega
    · exact ⟨Nat.succ_pos _, widen_fits hr (fun y hy => (minMax y hy).2) x hx⟩
  | noSignal | overrange => exact ⟨Nat.le_succ_of_le valid, more, sum, none, minMax⟩

/-- An entry after a sample fits, names its channel, and a calibration that it ends is COMPLETE or FAILED. -/
theorem OpEntry.sampled_fits {k : OpKind} {n : Nat} {e : OpEntry} (h : e.fits n = true) (pending : e.isPending = true)
    {r : Reading} (hr : ∀ raw ∈ r.raw, raw ≤ Config.rawMax) :
    (e.sampled k n r).fits n = true ∧ (e.sampled k n r).channel = e.channel ∧
      (k = .calibrate → (e.sampled k n r).isPending = false →
        (e.sampled k n r).outcome = .complete ∨ (e.sampled k n r).outcome = .failed) := by
  obtain ⟨tallied, more⟩ := (OpEntry.fits_iff_tallied n e).mp h
  have tally := OpEntry.tallied_tally tallied (more pending) hr
  obtain ⟨channel, outcome, -⟩ := e.tally_parts r
  have stays : (e.tally r).isPending = true := by
    unfold OpEntry.isPending at pending ⊢
    rwa [outcome]
  have ended (x : EntryOutcome) (hx : x ≠ .pending) :
      OpEntry.fits n { e.tally r with outcome := x } = true :=
    (OpEntry.fits_iff_tallied _ _).mpr ⟨tally, fun hp => absurd hp (by simp [OpEntry.isPending, hx])⟩
  have goesOn (h : ¬ n ≤ (e.tally r).taken) : (e.tally r).fits n = true :=
    (OpEntry.fits_iff_tallied _ _).mpr ⟨tally, fun _ => Nat.lt_of_not_le h⟩
  cases k with
  | measure =>
    unfold OpEntry.sampled OpEntry.measured
    dsimp only
    split
    · refine ⟨ended _ ?_, channel, fun e => by cases e⟩
      split <;> decide
    · next few => exact ⟨goesOn few, channel, fun e => by cases e⟩
  | calibrate =>
    unfold OpEntry.sampled OpEntry.calibrated
    dsimp only
    split
    · split
      · exact ⟨ended _ (by decide), channel, fun _ _ => .inl rfl⟩
      · next few => exact ⟨goesOn few, channel, fun _ idle => absurd (idle.symm.trans stays) (by decide)⟩
    · exact ⟨ended _ (by decide), channel, fun _ _ => .inr rfl⟩

/-- The mean of the samples of an entry is a raw value (R97). -/
theorem OpEntry.mean_le {n : Nat} {e : OpEntry} (h : e.fits n = true) : e.sum / n ≤ Config.rawMax := by
  obtain ⟨⟨valid, taken, sum, -⟩, -⟩ := (OpEntry.fits_iff_tallied n e).mp h
  exact Nat.div_le_of_le_mul (sum.trans (Nat.mul_le_mul_right _ (valid.trans taken)))

/-! ### The entries of an operation (R123) -/

theorem Operation.fits_iff (o : Operation) :
    o.fits = true ↔ (1 ≤ o.samples ∧ o.samples ≤ o.kind.maxSamples) ∧ (1 ≤ o.entries.length ∧ o.entries.length ≤ 8) ∧
      (o.entries.map OpEntry.channel).Nodup ∧ ∀ e ∈ o.entries, e.fits o.samples = true := by
  simp only [Operation.fits, inRange, Bool.and_eq_true, decide_eq_true_eq, List.all_eq_true, and_assoc]

/-- The current entry of a sound operation, with what stands before and behind it (R133). -/
theorem Operation.Sound.split {o : Operation} (h : o.Sound) {e : OpEntry} (current : o.currentEntry = some e) :
    ∃ before behind, o.entries = before ++ e :: behind ∧ before.length = o.current ∧
      (∀ x ∈ before, x.isPending = false) ∧ e.isPending = true := by
  obtain ⟨n, d, hn, hd, pending, before⟩ := firstPending_some h.2
  rw [Nat.zero_add] at hn
  subst hn
  obtain rfl : d = e := Option.some.inj (hd.symm.trans current)
  obtain ⟨inside, at_⟩ := List.getElem?_eq_some_iff.mp hd
  refine ⟨o.entries.take o.current, o.entries.drop (o.current + 1), ?_, ?_, before, pending⟩
  · rw [← at_, List.getElem_cons_drop, List.take_append_drop]
  · rw [List.length_take, Nat.min_eq_left inside.le]

theorem firstPending_at {before behind : List OpEntry} {e : OpEntry} (ended : ∀ x ∈ before, x.isPending = false)
    (pending : e.isPending = true) : firstPending 0 (before ++ e :: behind) = some before.length := by
  rw [firstPending_append ended, firstPending, if_pos pending, Nat.zero_add]

/-! ### Moving on (R133, R134) -/

/-- The OP_DONE record of an operation makes a legal frame (R134, R157). -/
theorem Operation.doneRecord_legal {o : Operation} (h : o.fits = true) (aborted : Bool) :
    (o.doneRecord aborted).payload.length ≤ 128 := by
  obtain ⟨-, ⟨-, length⟩, -⟩ := (Operation.fits_iff o).mp h
  exact Record.opDone_legal (by simpa using length)

/-- What moving on needs of the operation: its current entry has ended, and nothing before it is PENDING. -/
def Operation.Ended (o : Operation) : Prop :=
  o.current < o.entries.length ∧ ∀ e ∈ o.entries.take (o.current + 1), e.isPending = false

/-- An operation without a job moves on, in a state that differs from one with its books in order only by that operation
and by channels, locks and records. -/
theorem State.Coherent.moveOn {extra extra' : List Job} {s t : State} (h : s.Coherent extra noJob) {p o : Operation}
    (hp : p ∈ s.ops.table) (id : o.opId = p.opId) (fits : o.fits = true) (idle : o.outstanding = false)
    (ended : o.Ended) (scanJobs : ScanJobs noJob s.seq (extra' ++ s.jobs))
    (none : (extra' ++ s.jobs).countP (Job.ofOp p.opId) = 0)
    (counts : ∀ q ∈ s.ops.table, q.opId ≠ p.opId →
      (extra' ++ s.jobs).countP (Job.ofOp q.opId) = q.outstanding.toNat)
    (owned : ∀ j ∈ extra' ++ s.jobs, j.isOp = true → ∃ q ∈ s.ops.table, j.samples q = true)
    (seq : t.seq = s.seq) (queue : t.queue = s.queue) (res : t.res = s.res) (ops : t.ops = s.ops.update o)
    (legal : t.notices.Legal) : (t.moveOn o).Coherent extra' noJob ∧ (t.moveOn o).ops = s.ops.advance o := by
  have watch : s.seq.mode ≠ .watch := fun hw => by
    rw [(h.watchSound hw).1] at hp
    cases hp
  have jobs : t.jobs = s.jobs := by
    unfold State.jobs
    rw [queue, res]
  have moved : State.Coherent extra' noJob { t with ops := s.ops.advance o } :=
    { seqSound := seq ▸ h.seqSound
      opsSound := h.opsSound.advance hp id fits
      opJobs := by
        show OpJobs _ (extra' ++ t.jobs)
        rw [jobs]
        exact OpJobs.advance hp id idle none counts owned
      scanJobs := by
        show ScanJobs noJob t.seq (extra' ++ t.jobs)
        rw [seq, jobs]
        exact scanJobs
      watchSound := fun hw => absurd (seq ▸ hw) watch
      legal := legal }
  rw [State.moveOn_ops ended.1 ended.2, ops, OpEngine.advance_update]
  split
  · exact ⟨moved.addRecord (Operation.doneRecord_legal fits false), rfl⟩
  · exact ⟨moved, rfl⟩

end Sys2Proof.Machine
end

section
/-! A sample counted against an operation keeps the books, the channels and the calibrations together (R96 to R98,
R130 to R134). -/

namespace Sys2Proof.Machine

/-- The books, the channels and the calibrations in order, the jobs of `extra` counted in. -/
structure State.Inner (extra : List Job) (s : State) : Prop where
  coherent : s.Coherent extra noJob
  channels : s.ChannelsOk
  calibrations : s.CalibrationsSound

theorem State.Sound.inner {s : State} (h : s.Sound) : s.Inner [] := ⟨h.coherent, h.channelsOk, h.calibrationsSound⟩

/-- A change that reaches neither the channels nor the locks nor the plans of the operations. -/
theorem State.Inner.of_coherent {extra extra' : List Job} {s t : State} (h : s.Inner extra)
    (coherent : t.Coherent extra' noJob) (channels : t.channels = s.channels) (locks : t.locks = s.locks)
    (plans : s.ops.SamePlans t.ops) : t.Inner extra' where
  coherent := coherent
  channels := h.channels.of_same channels locks
  calibrations c := by
    rw [plans.calibrations, channels]
    exact h.calibrations c

/-! ### What the changes of a channel leave of the books -/

/-- `t` has the jobs, the sequencer and the operations of `s`, and legal records where `s` has. -/
structure State.SameBooks (s t : State) : Prop where
  seq : t.seq = s.seq
  queue : t.queue = s.queue
  res : t.res = s.res
  ops : t.ops = s.ops
  legal : s.notices.Legal → t.notices.Legal

theorem State.SameBooks.trans {s t u : State} (h : s.SameBooks t) (k : t.SameBooks u) : s.SameBooks u :=
  ⟨k.seq.trans h.seq, k.queue.trans h.queue, k.res.trans h.res, k.ops.trans h.ops, fun l => k.legal (h.legal l)⟩

theorem State.SameBooks.jobs {s t : State} (h : s.SameBooks t) : t.jobs = s.jobs := by
  unfold State.jobs
  rw [h.queue, h.res]

theorem State.SameBooks.coherent {s t : State} (h : s.SameBooks t) {extra : List Job} {astray : Job → Bool}
    (k : s.Coherent extra astray) : t.Coherent extra astray where
  seqSound := h.seq ▸ k.seqSound
  opsSound := h.ops ▸ k.opsSound
  opJobs := by
    rw [h.jobs, h.ops]
    exact k.opJobs
  scanJobs := by
    rw [h.jobs, h.seq]
    exact k.scanJobs
  watchSound hw := by
    rw [h.ops, h.res]
    exact k.watchSound (h.seq ▸ hw)
  legal := h.legal k.legal

theorem State.addStateRecord_books (c : ChanId) (round : Option Nat) (previous next : ChanState) (reason : Reason)
    (value : Option Int) (s : State) : s.SameBooks (s.addStateRecord c round previous next reason value) := by
  unfold State.addStateRecord
  split
  · exact ⟨rfl, rfl, rfl, rfl, fun h => NoticeQueue.legal_arrive h (Record.state_legal _)⟩
  · exact ⟨rfl, rfl, rfl, rfl, id⟩

/-- A change of channels and locks alone, before a STATE record. -/
theorem State.addStateRecord_changed {s t : State} (c : ChanId) (round : Option Nat) (previous next : ChanState)
    (reason : Reason) (value : Option Int) (h : s.SameBooks t) :
    s.SameBooks (t.addStateRecord c round previous next reason value) :=
  h.trans (t.addStateRecord_books c round previous next reason value)

theorem State.startCalibration_books (c : ChanId) (s : State) : s.SameBooks (s.startCalibration c) :=
  State.addStateRecord_changed _ _ _ _ _ _ ⟨rfl, rfl, rfl, rfl, id⟩

theorem State.endCalibration_books (c : ChanId) (baseline : Nat) (s : State) :
    s.SameBooks (s.endCalibration c baseline) :=
  State.addStateRecord_changed _ _ _ _ _ _ ⟨rfl, rfl, rfl, rfl, id⟩

theorem State.failCalibration_books (c : ChanId) (s : State) : s.SameBooks (s.failCalibration c) :=
  State.addStateRecord_changed _ _ _ _ _ _ ⟨rfl, rfl, rfl, rfl, id⟩

theorem State.abortCalibration_books (c : ChanId) (s : State) : s.SameBooks (s.abortCalibration c) :=
  State.addStateRecord_changed _ _ _ _ _ _ ⟨rfl, rfl, rfl, rfl, id⟩

theorem State.settleEntry_books (k : OpKind) (n : Nat) (e : OpEntry) (s : State) :
    s.SameBooks (s.settleEntry k n e) := by
  have same : s.SameBooks s := ⟨rfl, rfl, rfl, rfl, id⟩
  unfold State.settleEntry State.settleCalibration
  cases k with
  | measure => exact same
  | calibrate =>
    cases e.outcome with
    | complete => exact s.endCalibration_books _ _
    | failed => exact s.failCalibration_books _
    | pending | noSignal | cancelled | aborted => exact same

theorem State.moveOn_parts (o : Operation) (s : State) :
    (s.moveOn o).channels = s.channels ∧ (s.moveOn o).locks = s.locks := by
  unfold State.moveOn
  split <;> exact ⟨rfl, rfl⟩

/-- A finished CALIBRATE entry ends the calibration of its channel and reaches no other (R97, R98). -/
theorem State.ChannelsOk.settleEntry {s : State} (h : s.ChannelsOk) {k : OpKind} {n : Nat} {e : OpEntry}
    (fits : e.fits n = true) (ended : k = .calibrate → e.outcome = .complete ∨ e.outcome = .failed)
    (state : k = .calibrate → s.channels[e.channel].live.state = .calibrating) :
    (s.settleEntry k n e).ChannelsOk ∧
      ∀ d : ChanId, (s.settleEntry k n e).channels[d].live.state = .calibrating ↔
        s.channels[d].live.state = .calibrating ∧ ¬ (k = .calibrate ∧ d = e.channel) := by
  unfold State.settleEntry
  cases k with
  | measure => exact ⟨h, fun d => by simp⟩
  | calibrate =>
    have elsewhere {l : LiveState} {t : State} (out : l.state ≠ .calibrating)
        (channels : t.channels = s.channels.set e.channel { s.channels[e.channel] with live := l }) (d : ChanId) :
        t.channels[d].live.state = .calibrating ↔
          s.channels[d].live.state = .calibrating ∧ ¬ (OpKind.calibrate = .calibrate ∧ d = e.channel) := by
      rw [channels, set_channel]
      by_cases hd : e.channel = d
      · subst hd
        simp [out]
      · simp [hd, Ne.symm hd]
    unfold State.settleCalibration
    rcases ended rfl with outcome | outcome <;> rw [outcome]
    · exact ⟨h.endCalibration (state rfl) (OpEntry.mean_le fits),
        elsewhere (by simp) (s.endCalibration_parts e.channel (e.sum / n)).1⟩
    · exact ⟨h.failCalibration (state rfl),
        elsewhere (by simp [LiveState.cleared]) (s.failCalibration_parts e.channel).1⟩

/-! ### A sample (R130 to R133) -/

/-- The result of an operation's job counts against the entry that the job sampled. -/
theorem State.takeSample_eq {s : State} (fits : s.ops.Fits) {o : Operation} (ho : o ∈ s.ops.table) {e : OpEntry}
    (current : o.currentEntry = some e) (outstanding : o.outstanding = true) (r : Reading) :
    s.takeSample o.opId o.current r = s.countSample o e r := by
  unfold State.takeSample
  rw [fits.find_eq ho]
  simp only [current, outstanding, true_and, if_true]

/-- An operation with its current entry replaced and no job outstanding. -/
def Operation.sampledWith (e : OpEntry) (o : Operation) : Operation :=
  { o with entries := o.entries.set o.current e, outstanding := false }

section
variable {o : Operation} {e e' : OpEntry}

/-- A sampled operation fits, and is sound as long as its current entry is PENDING; otherwise it has to move on. -/
theorem Operation.Sound.sampledWith (h : o.Sound) (current : o.currentEntry = some e) (fits : e'.fits o.samples = true)
    (channel : e'.channel = e.channel) :
    (o.sampledWith e').fits = true ∧ (e'.isPending = true → (o.sampledWith e').Sound) ∧
      (e'.isPending = false → (o.sampledWith e').Ended) ∧
      ∀ c, (o.sampledWith e').calibrations c +
        (if o.kind = .calibrate ∧ e'.isPending = false ∧ c = e.channel then 1 else 0) = o.calibrations c := by
  obtain ⟨before, behind, entries, length, idle, pending⟩ := h.split current
  have set : o.entries.set o.current e' = before ++ e' :: behind := by
    rw [entries, ← length, List.set_append_right _ _ (Nat.le_refl _), Nat.sub_self, List.set_cons_zero]
  obtain ⟨samples, count, distinct, all⟩ := (Operation.fits_iff o).mp h.1
  have sampled : (o.sampledWith e').entries = before ++ e' :: behind := set
  have position : (o.sampledWith e').current = before.length := length.symm
  have fits' : (o.sampledWith e').fits = true := by
    rw [Operation.fits_iff, sampled]
    rw [entries] at count distinct all
    refine ⟨samples, by simpa using count, by simpa [channel] using distinct, fun x hx => ?_⟩
    rcases List.mem_append.mp hx with hx | hx
    · exact all x (List.mem_append_left _ hx)
    · rcases List.mem_cons.mp hx with rfl | hx
      · exact fits
      · exact all x (List.mem_append_right _ (List.mem_cons_of_mem _ hx))
  refine ⟨fits', fun stays => ⟨fits', ?_⟩, fun left => ?_, fun c => ?_⟩
  · rw [sampled, position, firstPending_at idle stays]
  · unfold Operation.Ended
    rw [sampled, position, List.take_length_add_append]
    refine ⟨by simp, fun x hx => ?_⟩
    rcases List.mem_append.mp hx with hx | hx
    · exact idle x hx
    · rw [List.mem_singleton.mp hx]
      exact left
  · unfold Operation.calibrations
    rw [sampled, entries]
    by_cases hk : o.kind = .calibrate
    · simp only [Operation.sampledWith, hk, if_true, true_and, List.countP_append, List.countP_cons, pending, channel,
        Bool.true_and, beq_iff_eq]
      cases he : e'.isPending with
      | true => simp
      | false =>
        by_cases hc : c = e.channel
        · simp [hc, Nat.add_assoc]
        · simp [hc, Ne.symm hc]
    · simp [Operation.sampledWith, hk]

end

/-- The channel of the current entry of a CALIBRATE operation calibrates, and no other entry names it (R96). -/
theorem State.Inner.calibrating {extra : List Job} {s : State} (h : s.Inner extra) {o : Operation}
    (ho : o ∈ s.ops.table) {e : OpEntry} (current : o.currentEntry = some e) (kind : o.kind = .calibrate) :
    s.channels[e.channel].live.state = .calibrating ∧ s.ops.calibrations e.channel = 1 := by
  obtain ⟨before, behind, entries, -, -, pending⟩ := (h.coherent.opsSound.operation ho).split current
  have named : 0 < o.calibrations e.channel := by
    unfold Operation.calibrations
    rw [if_pos kind, entries, List.countP_pos_iff]
    exact ⟨e, List.mem_append_right _ List.mem_cons_self, by simp [pending]⟩
  have counted := OpEngine.calibrations_remove h.coherent.opsSound.1 ho e.channel
  have books := h.calibrations e.channel
  by_cases state : s.channels[e.channel].live.state = .calibrating
  · exact ⟨state, by rw [books, if_pos state]⟩
  · rw [if_neg state] at books
    omega

/-- A sample of an operation's job, whole: the job leaves the books with its result counted (R130 to R134). -/
theorem State.Inner.takeSample {s : State} {j : Job} (h : s.Inner [j]) {id entry : Nat} (ho : j.origin = .op id entry)
    {r : Reading} (hr : ∀ raw ∈ r.raw, raw ≤ Config.rawMax) : (s.takeSample id entry r).Inner [] := by
  have op : j.isOp = true := (Job.isOp_iff j).mpr ⟨id, entry, ho⟩
  have coherent := h.coherent
  obtain ⟨o, mem, samples, outstanding, alone⟩ := coherent.opJobs.owner op
  obtain ⟨own, e, current, -⟩ := (Job.samples_iff o j).mp samples
  rw [ho, Origin.op.injEq] at own
  obtain ⟨rfl, rfl⟩ := own
  obtain ⟨counts, owned⟩ := coherent.opJobs.others ho
  have fits := coherent.opsSound.1
  have sound := coherent.opsSound.operation mem
  obtain ⟨-, -, -, all⟩ := (Operation.fits_iff o).mp sound.1
  obtain ⟨-, -, -, -, -, pending⟩ := sound.split current
  have entryFits := all e (List.mem_of_getElem? current)
  obtain ⟨fits', channel, ends⟩ := OpEntry.sampled_fits (k := o.kind) entryFits pending hr
  obtain ⟨opFits, stays, leaves, calibrations⟩ := sound.sampledWith current fits' channel
  have scanJobs := (ScanJobs.cons_op op _).mp coherent.scanJobs
  have watch : s.seq.mode ≠ .watch := fun hw => by
    rw [(coherent.watchSound hw).1] at mem
    cases mem
  rw [State.takeSample_eq fits mem current outstanding]
  unfold State.countSample
  dsimp only
  rw [show { o with entries := o.entries.set o.current (e.sampled o.kind o.samples r), outstanding := false } =
    o.sampledWith (e.sampled o.kind o.samples r) from rfl]
  generalize e.sampled o.kind o.samples r = e' at *
  cases hp : e'.isPending with
  | true =>
    rw [if_pos rfl]
    refine ⟨{ coherent with
      opsSound := coherent.opsSound.update mem rfl (stays hp)
      opJobs := OpJobs.update mem rfl rfl alone counts owned
      scanJobs := scanJobs
      watchSound := fun hw => absurd hw watch }, h.channels.of_same rfl rfl, fun c => ?_⟩
    have counted := OpEngine.calibrations_update fits mem (o' := o.sampledWith e') rfl c
    have same := calibrations c
    rw [if_neg (by simp [hp])] at same
    rw [← h.calibrations c]
    show (s.ops.update (o.sampledWith e')).calibrations c = _
    omega
  | false =>
    rw [if_neg (by decide)]
    have books := State.settleEntry_books o.kind o.samples e' { s with ops := s.ops.update (o.sampledWith e') }
    have state (kind : o.kind = .calibrate) : s.channels[e'.channel].live.state = .calibrating := by
      simp only [channel]
      exact (h.calibrating mem current kind).1
    obtain ⟨channels, calibrate⟩ := State.ChannelsOk.settleEntry
      (s := { s with ops := s.ops.update (o.sampledWith e') }) (h.channels.of_same rfl rfl) fits'
      (fun kind => ends kind hp) state
    obtain ⟨moved, ops⟩ := coherent.moveOn (extra' := []) mem (o := o.sampledWith e') rfl opFits rfl (leaves hp)
      scanJobs alone counts owned books.seq books.queue books.res books.ops (books.legal coherent.legal)
    obtain ⟨sameChannels, sameLocks⟩ := State.moveOn_parts (o.sampledWith e') (State.settleEntry o.kind o.samples e'
      { s with ops := s.ops.update (o.sampledWith e') })
    refine ⟨moved, channels.of_same sameChannels sameLocks, fun c => ?_⟩
    rw [sameChannels, ops]
    have counted := OpEngine.calibrations_advance fits mem (o := o.sampledWith e') rfl c
    have same := calibrations c
    have before := h.calibrations c
    have after := calibrate c
    rw [channel] at after
    by_cases named : o.kind = .calibrate ∧ c = e.channel
    · obtain ⟨kind, rfl⟩ := named
      have one := (h.calibrating mem current kind).2
      rw [if_pos ⟨kind, hp, rfl⟩] at same
      rw [if_neg (by rw [after]; simp [kind])]
      omega
    · rw [if_neg (by tauto)] at same
      simp only [after, named, not_false_eq_true, and_true]
      show _ = if s.channels[c].live.state = .calibrating then 1 else 0
      rw [← before]
      omega

end Sys2Proof.Machine
end

section
/-! The completion of a job keeps the books, the channels and the calibrations, and leaves the producers and the
arbiter at rest (R35, R36, R74, R76, R81). -/

namespace Sys2Proof.Machine

/-- The inner blocks of the part in order and at rest. -/
structure State.Settled (s : State) : Prop where
  inner : s.Inner []
  producers : s.ProducersRest
  grants : s.GrantsRest

theorem State.Sound.settled {s : State} (h : s.Sound) : s.Settled := ⟨h.inner, h.producersRest, h.grantsRest⟩

theorem State.Settled.atRest {s : State} (h : s.Settled) : s.AtRest := ⟨h.inner.coherent, h.producers, h.grants⟩

/-- A change of jobs alone keeps the inner blocks in order where it keeps the books. -/
theorem State.Inner.of_same {extra extra' : List Job} {s t : State} (h : s.Inner extra) (same : s.SameBeyondJobs t)
    (plans : s.ops.SamePlans t.ops) (coherent : t.Coherent extra' noJob) : t.Inner extra' :=
  h.of_coherent coherent same.channels same.locks plans

theorem State.Inner.drive {s : State} (h : s.Inner []) : s.drive.Inner [] :=
  h.of_same s.drive_same h.coherent.drive.2 h.coherent.drive.1

theorem State.Inner.grantPass {s : State} (h : s.Inner []) : s.grantPass.Inner [] :=
  h.of_same s.grantPass_same (.refl _) (h.coherent.grantPass fun _ => rfl)

/-- A drive from a state whose inner blocks are in order settles it, if the arbiter rests. -/
theorem State.Inner.settles {s : State} (h : s.Inner []) (grants : s.GrantsRest) : s.drive.Settled :=
  ⟨h.drive, s.drive_rests, grants.drive⟩

theorem State.Settled.of_atRest {s t : State} (h : s.Inner []) (same : s.SameBeyondJobs t)
    (plans : s.ops.SamePlans t.ops) (rest : t.AtRest) : t.Settled :=
  ⟨h.of_same same plans rest.coherent, rest.producers, rest.grants⟩

/-- A wake leaves settled inner blocks settled, and out of WATCH (R76). -/
theorem State.Settled.wake {s : State} (h : s.Settled) (reason : WakeReason) :
    (s.wake reason).Settled ∧ (s.wake reason).seq.mode ≠ .watch := by
  obtain ⟨rest, plans, mode⟩ := h.atRest.wake reason
  exact ⟨.of_atRest h.inner (s.wake_same reason) plans rest, mode⟩

/-! ### Scan results (R36, R70, R74) -/

/-- The tracker reaches the books only by legal records. -/
theorem State.trackResult_books (c : ChanId) (round : Nat) (r : Reading) (s : State) :
    s.SameBooks (s.trackResult c round r) := by
  have transition (h : s.notices.Legal) (v : Verdict) : (s.transitionNotices c round v).Legal := by
    unfold State.transitionNotices
    split
    · split
      · exact NoticeQueue.legal_arrive h (Record.state_legal _)
      · exact h
    · exact h
  rw [s.trackResult_eq]
  split
  · exact ⟨rfl, rfl, rfl, rfl, fun h => NoticeQueue.legal_arrive (transition h _) (Record.result_legal _)⟩
  · exact ⟨rfl, rfl, rfl, rfl, fun h => transition h _⟩

/-- The sequencer is told of the end of a scan job, after a wake if the result reports one (R74, R76). -/
theorem State.Coherent.wakeAndReport {s : State} {j : Job} (h : s.Coherent [j] noJob) {entry round : Nat}
    (ho : j.origin = .scan entry round) (wakes : Bool) :
    (State.endReport entry round (if wakes then s.wake .detect else s)).Coherent [] noJob ∧
      s.ops.SamePlans (State.endReport entry round (if wakes then s.wake .detect else s)).ops := by
  have scan : j.isScan = true := (Job.isScan_iff j).mpr ⟨entry, round, ho⟩
  have told : (s.endReport entry round).Coherent [] noJob ∧ s.ops.SamePlans (s.endReport entry round).ops := by
    rw [(State.endReport_parts entry round s).1]
    exact ⟨h.endReport ho, .refl _⟩
  obtain ⟨-, current, -⟩ := (Sequencer.owns_scan ho).mp (h.scanJobs.owns j List.mem_cons_self)
  cases wakes with
  | false => exact told
  | true =>
    rw [if_pos rfl]
    by_cases watch : s.seq.mode = .watch
    · obtain ⟨rest, plans, -, another⟩ := h.wake ((OpJobs.cons_scan scan _).mp h.opJobs) watch .detect
      have ignored : (s.wake .detect).endReport entry round = s.wake .detect :=
        if_neg fun named => another (named.2.1.trans current)
      rw [ignored]
      exact ⟨rest.coherent, plans⟩
    · rw [State.wake_outside _ _ watch]
      exact told

theorem State.Inner.scanResult {s : State} {j : Job} (h : s.Inner [j]) {entry round : Nat}
    (ho : j.origin = .scan entry round) (c : ChanId) {r : Reading} (hr : ∀ raw ∈ r.raw, raw ≤ Config.rawMax) :
    (s.scanResult c entry round r).Inner [] := by
  have books := s.trackResult_books c round r
  obtain ⟨channels, calibrating⟩ := h.channels.trackResult c round hr
  have tracked : (s.trackResult c round r).Inner [j] :=
    { coherent := books.coherent h.coherent
      channels := channels
      calibrations := fun d => by
        rw [books.ops]
        simp only [calibrating d]
        exact h.calibrations d }
  obtain ⟨told, plans⟩ := tracked.coherent.wakeAndReport ho (s.verdict c r).wakes
  refine State.Inner.drive (tracked.of_same ?_ plans told)
  refine State.SameBeyondJobs.trans ?_ (State.endReport_same _ _ _)
  split
  · exact State.wake_same _ _
  · exact .refl _

/-! ### Completions (R35) -/

theorem Resources.release_eq {q r : Running} (job : r.job = q.job) (cell : r.cell = q.cell) (u : UnitId)
    (res : Resources) : res.release u r = res.release u q := by
  cases r
  cases q
  cases job
  cases cell
  rfl

theorem State.Inner.deliver {s : State} {j : Job} (h : s.Inner [j]) {r : Reading}
    (hr : ∀ raw ∈ r.raw, raw ≤ Config.rawMax) : (s.deliver j r).Inner [] := by
  unfold State.deliver
  cases ho : j.origin with
  | scan entry round => exact h.scanResult ho j.channel hr
  | op id entry => exact (h.takeSample ho hr).drive

/-- A job that completes with a reading in its range settles the inner blocks (R35). -/
theorem State.Inner.completeJob {s : State} (h : s.Inner []) {u : UnitId} {q run : Running}
    (busy : s.res.units[u] = some q) (job : run.job = q.job) (cell : run.cell = q.cell) {r : Reading}
    (hr : ∀ raw ∈ r.raw, raw ≤ Config.rawMax) : (s.completeJob u run r).Settled := by
  have released : State.Inner [q.job] { s with res := s.res.release u q } :=
    h.of_coherent (h.coherent.released (fun _ => rfl) busy) rfl rfl (.refl _)
  unfold State.completeJob
  rw [Resources.release_eq job cell, job]
  exact (released.deliver hr).grantPass.settles (State.grantPass_rests _)

end Sys2Proof.Machine
end

section
/-! The commands of the counting units, the round timer and the passing of time keep the inner blocks settled (R21,
R26 to R32, R66, R67). -/

namespace Sys2Proof.Machine

/-! ### Changes that leave the jobs -/

/-- A sequencer with the same round and list keeps the books. -/
theorem State.Coherent.retimed {s : State} (h : s.Coherent [] noJob) {q : Sequencer} (sound : q.Sound)
    (inRound : q.inRound = s.seq.inRound) (round : q.round = s.seq.round)
    (outstanding : q.outstanding = s.seq.outstanding) (list : q.list = s.seq.list)
    (pos : q.issuePos = s.seq.issuePos) (mode : q.mode = s.seq.mode) :
    State.Coherent [] noJob { s with seq := q } :=
  { h with
    seqSound := sound
    scanJobs := h.scanJobs.congr inRound round outstanding list (Nat.le_of_eq pos.symm)
    watchSound := fun hw => h.watchSound (mode.symm.trans hw) }

theorem State.Coherent.setUnit {s : State} (h : s.Coherent [] noJob) {u : UnitId} {q r : Running}
    (busy : s.res.units[u] = some q) (job : r.job = q.job) : (s.setUnit u r).Coherent [] noJob where
  seqSound := h.seqSound
  opsSound := h.opsSound
  opJobs := by
    rw [State.setUnit_jobs busy job]
    exact h.opJobs
  scanJobs := by
    rw [State.setUnit_jobs busy job]
    exact h.scanJobs
  watchSound hw := by
    obtain ⟨table, units, cells⟩ := h.watchSound hw
    refine ⟨table, fun v hv => ?_, cells⟩
    by_cases e : u = v
    · subst e
      rw [units u hv] at busy
      cases busy
    · rw [s.setUnit_other u v r e]
      exact units v hv
  legal := h.legal

theorem State.Settled.setUnit {s : State} (h : s.Settled) {u : UnitId} {q r : Running}
    (busy : s.res.units[u] = some q) (job : r.job = q.job) : (s.setUnit u r).Settled :=
  ⟨h.inner.of_coherent (h.inner.coherent.setUnit busy job) rfl rfl (.refl _), h.producers, h.grants.setUnit busy r⟩

/-- A change of the link alone leaves the inner blocks as they are. -/
theorem State.Settled.link {s : State} (h : s.Settled) (l : Line) (d : Delivery) (x : Handler) (held : Bool)
    (is : List Instr) :
    State.Settled { s with line := l, delivery := d, handler := x, resetHeld := held, pending := is } :=
  ⟨⟨{ h.inner.coherent with }, h.inner.channels.of_same rfl rfl, h.inner.calibrations⟩, h.producers,
    h.grants.congr rfl rfl rfl⟩

/-! ### Edges and completions (R28 to R32) -/

/-- An edge that a unit takes and that does not end its job. -/
theorem State.Settled.edge {s : State} (h : s.Settled) {u : UnitId} {dt : Nat} {test : Running → Bool} {q r : Running}
    (hq : s.takesEdge u dt test = some q) (job : r.job = q.job) : (s.setUnit u r).Settled := by
  obtain ⟨x, busy, -, rfl, -⟩ := State.takesEdge_some hq
  exact h.setUnit busy job

theorem gateReading_le (edges : Nat) : ∀ raw ∈ (gateReading edges).raw, raw ≤ Config.rawMax := by
  intro raw hraw
  unfold gateReading at hraw
  split at hraw
  · cases hraw
  · split at hraw
    · next small =>
      cases hraw
      exact small
    · cases hraw
      exact Nat.le_refl _

/-- The ticks of a count that ends at an edge are a raw value: the edge comes before tick 65535 (R30, R31). -/
theorem State.Settled.countEnds {s : State} (h : s.Settled) {u : UnitId} {dt : Nat} {mode : Mode} {q : Running}
    (hq : s.takesEdge u dt (Running.isIn .count mode) = some q) (ungated : mode ≠ .gated) :
    (s.completeJob u q (.value q.ticks)).Settled := by
  obtain ⟨x, busy, counts, rfl, past⟩ := State.takesEdge_some hq
  obtain ⟨phase, hm⟩ := Running.isIn_iff.mp counts
  have shut : (x.pass dt).gateOpen = false := by simp [Running.gateOpen, hm, ungated]
  have ticks : (x.pass dt).ticks < Config.tickMax := ((Running.isPast_span shut).mp past).2 phase
  refine h.inner.completeJob busy rfl rfl fun raw hraw => ?_
  cases hraw
  exact ticks.le.trans (by decide)

/-- The commands of the counting units. -/
theorem State.Settled.units {s : State} (h : s.Settled) (u : UnitId) (e : Edge) (dt : Nat) :
    Yields State.Settled (execSettleEdge u dt s) ∧ Yields State.Settled (execGateEdge u dt s) ∧
      Yields State.Settled (execGateClose u s) ∧ Yields State.Settled (execArmingEdge u dt s) ∧
      Yields State.Settled (execPeriodEdge u dt s) ∧ Yields State.Settled (execIntervalArmingEdge u e dt s) ∧
      Yields State.Settled (execIntervalFinalEdge u e dt s) ∧ Yields State.Settled (execSpanTimeout u s) := by
  refine ⟨?_, ?_, ?_, ?_, ?_, ?_, ?_, ?_⟩
  · unfold execSettleEdge
    split
    · next r hr => exact .next (h.edge hr r.settle_job)
    · exact .next h
  · unfold execGateEdge
    split
    · next hr => exact .next (h.edge hr rfl)
    · exact .next h
  · unfold execGateClose
    split
    · next r busy =>
      split
      · exact .next (h.inner.completeJob busy rfl rfl (gateReading_le _))
      · exact .next h
    · exact .next h
  · unfold execArmingEdge
    split
    · next hr => exact .next (h.edge hr rfl)
    · exact .next h
  · unfold execPeriodEdge
    split
    · next hr =>
      split
      · exact .next (h.countEnds hr (by decide))
      · exact .next (h.edge hr rfl)
    · exact .next h
  · unfold execIntervalArmingEdge
    split
    · next hr =>
      split
      · exact .next (h.edge hr rfl)
      · exact .next (h.edge hr rfl)
    · exact .next h
  · unfold execIntervalFinalEdge
    split
    · next hr =>
      split
      · exact .next (h.countEnds hr (by decide))
      · exact .next (h.edge hr rfl)
    · exact .next h
  · unfold execSpanTimeout
    split
    · next r busy =>
      split
      · exact .next h
      · exact .next (h.inner.completeJob busy rfl rfl fun raw hraw => by cases hraw)
    · exact .next h

/-! ### The round timer (R66 to R68) -/

theorem State.Settled.overrun {s : State} (h : s.Settled) : s.overrun.Settled := by
  obtain ⟨between, stopped, timer, round, -, length, dividers, inside⟩ := h.inner.coherent.seqSound
  have counted : State.Coherent [] noJob
      { s with seq := { s.seq with overruns := bump s.seq.overruns, heldStart := true, overrunReported := true } } :=
    h.inner.coherent.retimed ⟨between, stopped, timer, round, bump_le _, length, dividers, inside⟩
      rfl rfl rfl rfl rfl rfl
  have kept {t : State} (coherent : t.Coherent [] noJob) (same : s.SameBeyondJobs t) (ops : t.ops = s.ops)
      (producers : t.ProducersRest) (grants : t.GrantsRest) : t.Settled :=
    ⟨h.inner.of_same same (ops ▸ .refl _) coherent, producers, grants⟩
  unfold State.overrun
  dsimp only
  split
  · exact kept counted ⟨rfl, rfl, rfl, rfl, rfl, rfl, rfl⟩ rfl h.producers (h.grants.congr rfl rfl rfl)
  · exact kept (counted.addRecord (Record.scan_legal _ _)) ⟨rfl, rfl, rfl, rfl, rfl, rfl, rfl⟩ rfl h.producers
      (h.grants.congr rfl rfl rfl)

theorem State.Settled.roundTimer {s : State} (h : s.Settled) : Yields State.Settled (execRoundTimerExpiry s) := by
  have sound := h.inner.coherent.seqSound
  obtain ⟨between, stopped, timer, round, overruns, length, dividers, inside⟩ := sound
  unfold execRoundTimerExpiry
  split
  · exact .next h
  · next t ht =>
    rw [ht] at timer
    have timed : State.Settled { s with seq := { s.seq with timer := some (Timer.start t.period) } } :=
      ⟨h.inner.of_coherent (h.inner.coherent.retimed
        ⟨between, stopped, timer, round, overruns, length, dividers, inside⟩ rfl rfl rfl rfl rfl rfl) rfl rfl (.refl _),
        h.producers, h.grants.congr rfl rfl rfl⟩
    dsimp only
    split
    · exact .next timed.overrun
    · next idle =>
      refine .next (State.Inner.settles ?_ (timed.grants.congr rfl rfl rfl))
      refine timed.inner.of_same (State.roundBegin_same _) (.refl _) ?_
      refine timed.inner.coherent.roundBegin (timed.inner.coherent.allOps (between (by simpa using idle)).2) ?_
      intro hm
      have hm : s.seq.mode = .stopped := hm
      rw [hm] at timer
      cases timer

/-! ### Time (R21, R66, R167) -/

theorem State.Settled.passUnit {s : State} (h : s.Settled) (u : UnitId) : (s.passUnit u).Settled := by
  unfold State.passUnit
  split
  · exact h
  · next busy => exact h.setUnit busy rfl

theorem State.Settled.idle {s : State} (h : s.Settled) : s.idle.Settled := by
  unfold State.idle
  split
  · exact h
  · obtain ⟨between, stopped, timer, round, overruns, length, dividers, inside⟩ := h.inner.coherent.seqSound
    have timed : State.Settled { s with seq := { s.seq with timer := s.seq.timer.map Timer.pass } } :=
      ⟨h.inner.of_coherent (h.inner.coherent.retimed ⟨between, stopped, by rw [Option.isSome_map]; exact timer, round,
        overruns, length, dividers, inside⟩ rfl rfl rfl rfl rfl rfl) rfl rfl (.refl _),
        h.producers, h.grants.congr rfl rfl rfl⟩
    have linked := timed.link s.line { s.delivery with ackTimer := s.delivery.ackTimer.map Timer.pass } s.handler
      s.resetHeld s.pending
    exact (((linked.passUnit 0).passUnit 1).passUnit 2).passUnit 3

end Sys2Proof.Machine
end

section
/-! The scan requests keep the inner blocks settled (R57, R58, R62 to R66). -/

namespace Sys2Proof.Machine

/-! ### SET_SCAN (R57, R58) -/

theorem badScanField_none {p : List Byte} {n i : Nat} (h : badScanField p n i = none) :
    ∀ e ∈ scanEntries p n i, 1 ≤ e.divider ∧ e.divider ≤ 16 := by
  induction n generalizing i with
  | zero =>
    intro e he
    cases he
  | succ n ih =>
    unfold badScanField at h
    split at h
    · cases h
    · split at h
      · next range =>
        intro e he
        rcases List.mem_cons.mp he with rfl | he
        · simpa [inRange] using range
        · exact ih h e he
      · cases h

theorem scanEntries_length (p : List Byte) (n i : Nat) : (scanEntries p n i).length = n := by
  induction n generalizing i with
  | zero => rfl
  | succ n ih => rw [scanEntries, List.length_cons, ih]

/-- When SET_SCAN is accepted: in STOPPED, with at most 32 entries whose dividers are in range (R58). -/
theorem State.refuseSetScan_none {p : List Byte} {s : State} (h : s.refuseSetScan p = none) :
    s.seq.mode = .stopped ∧ byteAt p 0 ≤ 32 ∧ ∀ e ∈ scanEntries p (byteAt p 0) 0, 1 ≤ e.divider ∧ e.divider ≤ 16 := by
  unfold State.refuseSetScan at h
  split at h
  · cases h
  · next mode =>
    split at h
    · cases h
    · next few =>
      exact ⟨not_not.mp mode, Nat.le_of_not_lt few, badScanField_none (Option.map_eq_none_iff.mp h)⟩

/-- When SCAN_START is accepted: the mode it names, and no operation where that is WATCH (R62). -/
theorem State.refuseScanStart_none {s : State} {p : List Byte} (h : s.refuseScanStart p = none) :
    ∃ m, startMode (byteAt p 0) = some m ∧ m ≠ .stopped ∧ (m = .watch → s.ops.table = []) := by
  unfold State.refuseScanStart at h
  split at h
  · cases h
  · next m hm =>
    refine ⟨m, hm, ?_, fun watch => ?_⟩
    · rintro rfl
      simp [periodOk] at h
    · subst watch
      split at h
      · cases h
      · split at h
        · cases h
        · split at h
          · cases h
          · split at h
            · cases h
            · next free => simpa using free

/-- Between rounds the sequencer has nothing to do. -/
theorem State.producersRest_between {s : State} (between : s.seq.inRound = false) :
    s.ProducersRest ↔ s.nextOperation = none := by
  rw [State.producersRest_iff]
  simp [Sequencer.roundOver, State.skipDue, State.nextScan, Sequencer.atPosition, between]

namespace State.Settled

variable {s : State}

/-- Between rounds another sequencer between rounds leaves the inner blocks settled. -/
theorem setSeq (h : s.Settled) (between : s.seq.inRound = false) {q : Sequencer} (sound : q.Sound)
    (still : q.inRound = false) (mode : (q.mode == .watch) = (s.seq.mode == .watch)) :
    State.Settled { s with seq := q } := by
  have none := (h.inner.coherent.seqSound.1 between).2
  have watch : q.mode = .watch → s.seq.mode = .watch := fun hw => by simpa [hw] using mode.symm
  have coherent := h.inner.coherent.setSeq (h.inner.coherent.allOps none) sound (sound.1 still).2
    fun hw => h.inner.coherent.watchSound (watch hw)
  exact ⟨h.inner.of_coherent coherent rfl rfl (.refl _),
    (State.producersRest_between (s := { s with seq := q }) still).mpr
      ((State.producersRest_between between).mp h.producers),
    h.grants.congr rfl rfl mode⟩

theorem setScan (h : s.Settled) {p : List Byte} (accepted : s.refuseSetScan p = none) :
    State.Settled { s with seq := { s.seq with list := scanEntries p (byteAt p 0) 0 } } := by
  obtain ⟨mode, few, dividers'⟩ := State.refuseSetScan_none accepted
  obtain ⟨between, stopped, timer, round, overruns, -, -, -⟩ := h.inner.coherent.seqSound
  have idle := stopped mode
  refine h.setSeq idle ⟨between, stopped, timer, round, overruns, ?_, dividers', ?_⟩ idle rfl
  · show (scanEntries p (byteAt p 0) 0).length ≤ 32
    rwa [scanEntries_length]
  · show s.seq.issuePos ≤ _
    rw [(between idle).1]
    exact Nat.zero_le _

/-! ### SCAN_STOP (R64, R65) -/

/-- An abandoned round leaves the inner blocks settled (R65). -/
theorem abandon (h : s.Settled) : s.abandon.Settled := by
  obtain ⟨coherent, plans, grants⟩ := h.inner.coherent.abandon h.inner.coherent.opJobs
  exact ⟨h.inner.of_same s.abandon_same plans coherent, State.drive_rests _, grants h.grants⟩

theorem stopScan (h : s.Settled) (mode : s.seq.mode ≠ .watch) : s.stopScan.Settled := by
  have seq := s.abandon_seq
  obtain ⟨-, -, -, round, overruns, length, dividers, -⟩ := h.abandon.inner.coherent.seqSound
  refine h.abandon.setSeq (by rw [seq]; rfl)
    ⟨fun _ => ?_, fun _ => ?_, rfl, round, overruns, length, dividers, ?_⟩ ?_ ?_
  · show s.abandon.seq.issuePos = 0 ∧ s.abandon.seq.outstanding = []
    rw [seq]
    exact ⟨rfl, rfl⟩
  · show s.abandon.seq.inRound = false
    rw [seq]
    rfl
  · show s.abandon.seq.issuePos ≤ s.abandon.seq.list.length
    rw [seq]
    exact Nat.zero_le _
  · show s.abandon.seq.inRound = false
    rw [seq]
    rfl
  · rw [seq]
    exact (beq_eq_false_iff_ne.mpr mode).symm

/-! ### SCAN_START (R62, R63) -/

/-- With no job no unit is busy and no cell held (R23). -/
theorem watchOnly_of_noJobs {s : State} (agree : s.res.Agree) (none : s.jobs = []) : s.res.WatchOnly := by
  have idle : s.res.running = [] := List.map_eq_nil_iff.mp (List.append_eq_nil_iff.mp none).2
  refine ⟨fun u _ => ?_, fun c _ => ?_⟩
  · cases hu : s.res.units[u] with
    | none => rfl
    | some r =>
      have running := Resources.mem_running (x := (u, r)).mpr hu
      rw [idle] at running
      cases running
  · have cell := agree.2.1 c
    rw [idle] at cell
    exact (Option.some.inj cell).symm

/-- A run begins with a sequencer in its first round: outside WATCH, or in WATCH with no operation in the table. -/
theorem began (h : s.Settled) (agree : s.res.Agree) (none : s.seq.outstanding = []) {q : Sequencer} (sound : q.Sound)
    (fresh : q.outstanding = [])
    (apart : q.mode = .watch ∧ s.ops.table = [] ∨ q.mode ≠ .watch ∧ s.seq.mode ≠ .watch) :
    State.Settled (State.drive { s with seq := q }) := by
  have ops := h.inner.coherent.allOps none
  have settled (watch : q.mode = .watch → s.ops.table = [] ∧ s.res.WatchOnly)
      (grants : State.GrantsRest { s with seq := q }) : State.Settled (State.drive { s with seq := q }) :=
    (h.inner.of_coherent (h.inner.coherent.setSeq ops sound fresh watch) rfl rfl (.refl _)).settles grants
  rcases apart with ⟨-, table⟩ | ⟨mode, before⟩
  · have noJobs := h.inner.coherent.noJobs table none
    exact settled (fun _ => ⟨table, watchOnly_of_noJobs agree noJobs⟩)
      (State.grantsRest_of_empty (s := { s with seq := q }) (List.append_eq_nil_iff.mp noJobs).1)
  · refine settled (fun hw => absurd hw mode) (h.grants.congr rfl rfl ?_)
    rw [beq_eq_false_iff_ne.mpr mode, beq_eq_false_iff_ne.mpr before]

theorem nextRound_le (n : Nat) : nextRound n ≤ 65535 := Nat.le_of_lt_succ (Nat.mod_lt _ (by decide))

/-- A run of paced rounds begins between rounds (R63, R66). -/
theorem startPaced (h : s.Settled) (agree : s.res.Agree) (none : s.seq.outstanding = []) {mode : SeqMode}
    (paced : (mode == .running || mode == .watch) = true)
    (apart : mode = .watch ∧ s.ops.table = [] ∨ mode ≠ .watch ∧ s.seq.mode ≠ .watch) (period : Nat) :
    (s.startPaced mode period).Settled := by
  obtain ⟨-, -, -, -, overruns, length, dividers, -⟩ := h.inner.coherent.seqSound
  exact h.began agree none
    (q := { (s.beginRun mode).roundBegin.seq with timer := some (Timer.start period) })
    ⟨fun e => (by cases e), fun (e : mode = .stopped) => (by rw [e] at paced; cases paced), paced.symm, nextRound_le _,
      overruns, length, dividers, Nat.zero_le _⟩ rfl apart

/-- A SINGLE round begins between rounds, without the round timer (R63, R66). -/
theorem startSingle (h : s.Settled) (agree : s.res.Agree) (none : s.seq.outstanding = []) (mode : s.seq.mode ≠ .watch) :
    (State.drive (State.roundBegin (State.beginRun .single
      { s with seq := { s.seq with timer := Option.none } }))).Settled := by
  obtain ⟨-, -, -, -, overruns, length, dividers, -⟩ := h.inner.coherent.seqSound
  exact h.began agree none
    (q := (State.roundBegin (State.beginRun .single { s with seq := { s.seq with timer := Option.none } })).seq)
    ⟨fun e => (by cases e), fun e => (by cases e), rfl, nextRound_le _, overruns, length, dividers, Nat.zero_le _⟩ rfl
    (.inr ⟨fun e => (by cases e), mode⟩)

theorem startScan (h : s.Settled) (agree : s.res.Agree) (before : s.seq.mode ≠ .watch) {m : SeqMode}
    (watch : m = .watch → s.ops.table = []) (period : Nat) : (s.startScan m period).Settled := by
  have agree' : s.abandon.res.Agree := State.agree_kept.abandon agree
  have seq := s.abandon_seq
  have between : s.abandon.seq.inRound = false := by rw [seq]; rfl
  have none : s.abandon.seq.outstanding = [] := by rw [seq]; rfl
  have mode : s.abandon.seq.mode ≠ .watch := by
    rw [seq]
    exact before
  have table (hm : m = .watch) : s.abandon.ops.table = [] := by
    have same := (h.inner.coherent.abandon h.inner.coherent.opJobs).2.1.1
    rwa [watch hm, List.map_nil, List.map_eq_nil_iff] at same
  have sound := h.abandon.inner.coherent.seqSound
  unfold State.startScan
  cases m with
  | stopped => exact h.abandon
  | running =>
    have stored := h.abandon.setSeq between (q := { s.abandon.seq with runPeriod := period }) sound between rfl
    exact stored.startPaced agree' none (mode := .running) rfl (.inr ⟨by decide, mode⟩) period
  | watch =>
    have stored := h.abandon.setSeq between (q := { s.abandon.seq with watchPeriod := period }) sound between rfl
    exact stored.startPaced agree' none (mode := .watch) rfl (.inl ⟨rfl, table rfl⟩) period
  | single => exact h.abandon.startSingle agree' none mode

end State.Settled

end Sys2Proof.Machine
end

section
/-! CALIBRATE, MEASURE and ABORT_OP keep the inner blocks settled (R96, R99, R124 to R127, R135). -/

namespace Sys2Proof.Machine

/-! ### A free id (R124) -/

/-- The id that stands a number of steps after an id. -/
theorem nextOpId_iterate {n : Nat} (h : 1 ≤ n ∧ n ≤ 255) (k : Nat) :
    nextOpId^[k] n = (n - 1 + k) % 255 + 1 := by
  induction k with
  | zero =>
    rw [Function.iterate_zero_apply]
    omega
  | succ k ih =>
    rw [Function.iterate_succ_apply', ih, nextOpId]
    split <;> omega

/-- The walk from an id stops at a free one, or has found every id within its steps taken. -/
theorem firstFreeId_cases (table : List Operation) (fuel n : Nat) :
    firstFreeId table fuel n ∉ table.map Operation.opId ∨
      ∀ k < fuel, nextOpId^[k] n ∈ table.map Operation.opId := by
  induction fuel generalizing n with
  | zero => exact .inr fun k hk => absurd hk (Nat.not_lt_zero k)
  | succ fuel ih =>
    have taken : (table.any fun o => o.opId == n) = true ↔ n ∈ table.map Operation.opId := by
      simp [List.any_eq_true]
    unfold firstFreeId
    split
    · next here =>
      refine (ih (nextOpId n)).imp_right fun h k hk => ?_
      cases k with
      | zero => exact taken.mp here
      | succ k => exact h k (Nat.lt_of_succ_lt_succ hk)
    · next free => exact .inl fun mem => free (taken.mpr mem)

theorem firstFreeId_range {table : List Operation} {fuel n : Nat} (h : 1 ≤ n ∧ n ≤ 255) :
    1 ≤ firstFreeId table fuel n ∧ firstFreeId table fuel n ≤ 255 := by
  induction fuel generalizing n with
  | zero => exact h
  | succ fuel ih =>
    unfold firstFreeId
    split
    · refine ih ?_
      unfold nextOpId
      split <;> omega
    · exact h

/-- The id that the next operation takes is in range and free: within as many steps as there are operations and one
more, a free one comes. -/
theorem OpEngine.takenId_free {e : OpEngine} (h : e.Fits) :
    e.takenId ∉ e.table.map Operation.opId ∧ 1 ≤ e.takenId ∧ e.takenId ≤ 255 := by
  obtain ⟨length, -, -, low, high⟩ := h
  refine ⟨?_, firstFreeId_range ⟨low, high⟩⟩
  refine (firstFreeId_cases e.table (e.table.length + 1) e.nextId).resolve_right fun all => ?_
  have distinct : ((List.range (e.table.length + 1)).map fun k => nextOpId^[k] e.nextId).Nodup := by
    refine List.Nodup.map_on (fun a ha b hb same => ?_) List.nodup_range
    rw [List.mem_range] at ha hb
    rw [nextOpId_iterate ⟨low, high⟩, nextOpId_iterate ⟨low, high⟩] at same
    simp only [Config.opCapacity] at length
    omega
  have within : ((List.range (e.table.length + 1)).map fun k => nextOpId^[k] e.nextId) ⊆
      e.table.map Operation.opId := by
    intro x hx
    obtain ⟨k, hk, rfl⟩ := List.mem_map.mp hx
    exact all k (List.mem_range.mp hk)
  have count := (List.subperm_of_subset distinct within).length_le
  simp at count

/-! ### What an accepted operation request names (R125) -/

theorem badOpChannel_none {earlier ns : List Nat} {offset : Nat} (h : badOpChannel earlier ns offset = none) :
    (∀ n ∈ ns, n ≤ 23) ∧ (∀ n ∈ ns, n ∉ earlier) ∧ ns.Nodup := by
  induction ns generalizing earlier offset with
  | nil => simp
  | cons n ns ih =>
    unfold badOpChannel at h
    split at h
    · cases h
    · next small =>
      split at h
      · cases h
      · next fresh =>
        obtain ⟨range, apart, distinct⟩ := ih h
        refine ⟨List.forall_mem_cons.mpr ⟨Nat.le_of_not_lt small, range⟩,
          List.forall_mem_cons.mpr ⟨by simpa using fresh, fun m hm => ?_⟩, List.nodup_cons.mpr ⟨fun hn => ?_, distinct⟩⟩
        · exact fun mem => apart m hm (List.mem_append_left _ mem)
        · exact apart n hn (List.mem_append_right _ (List.mem_singleton_self n))

theorem wrongOpChannel_none {k : OpKind} {s : State} {cs : List ChanId} {offset : Nat}
    (h : s.wrongOpChannel k cs offset = none) : ∀ c ∈ cs, s.admitsOp k c = true := by
  induction cs generalizing offset with
  | nil =>
    intro c hc
    cases hc
  | cons c cs ih =>
    unfold State.wrongOpChannel at h
    split at h
    · next admits => exact List.forall_mem_cons.mpr ⟨admits, ih h⟩
    · cases h

/-- An operation request that R125 accepts: its samples, its 1 to 8 distinct channels that admit it, and a place in the
table. -/
structure State.Accepts (k : OpKind) (p : List Byte) (s : State) : Prop where
  samples : 1 ≤ byteAt p 0 ∧ byteAt p 0 ≤ k.maxSamples
  count : 1 ≤ (opChannels p).length ∧ (opChannels p).length ≤ 8
  distinct : (opChannels p).Nodup
  admits : ∀ c ∈ opChannels p, s.admitsOp k c = true
  room : s.ops.table.length < Config.opCapacity

theorem State.refuseOperation_none {k : OpKind} {p : List Byte} {s : State} (h : s.refuseOperation k p = none)
    (length : p.length = 2 + byteAt p 1) : s.Accepts k p := by
  unfold State.refuseOperation at h
  split at h
  · cases h
  · next samples =>
    split at h
    · cases h
    · next count =>
      split at h
      · cases h
      · next named =>
        split at h
        · cases h
        · next admits =>
          split at h
          · cases h
          · next room =>
            obtain ⟨range, -, distinct⟩ := badOpChannel_none named
            simp only [inRange, Bool.not_eq_true', Bool.not_eq_false, Bool.and_eq_true, decide_eq_true_eq]
              at samples count
            have size : (opChannels p).length = byteAt p 1 := by
              simp [opChannels, opChannelBytes, length]
            refine ⟨samples, size ▸ count, ?_, wrongOpChannel_none admits, Nat.lt_of_not_le room⟩
            refine List.Nodup.map_on (fun a ha b hb same => ?_) distinct
            have := congrArg Fin.val same
            rwa [val_finOr (Nat.lt_succ_of_le (range a ha)), val_finOr (Nat.lt_succ_of_le (range b hb))] at this

/-! ### The accepted operation (R123, R124, R126) -/

theorem newOperation_sound {k : OpKind} {p : List Byte} {s : State} (h : s.Accepts k p) (id : Nat) :
    (newOperation id k p).Sound := by
  obtain ⟨samples, count, distinct, -, -⟩ := h
  refine ⟨(Operation.fits_iff _).mpr ⟨samples, by simpa [newOperation] using count, ?_, fun e he => ?_⟩, ?_⟩
  · simpa [newOperation, Function.comp_def, OpEntry.fresh] using distinct
  · obtain ⟨c, -, rfl⟩ := List.mem_map.mp he
    exact OpEntry.fresh_fits c samples.1
  · unfold newOperation
    cases hc : opChannels p with
    | nil =>
      rw [hc] at count
      exact absurd count.1 (Nat.not_succ_le_zero 0)
    | cons c cs => rfl

theorem newOperation_calibrations {k : OpKind} {p : List Byte} (distinct : (opChannels p).Nodup) (id : Nat)
    (c : ChanId) : (newOperation id k p).calibrations c = if k = .calibrate ∧ c ∈ opChannels p then 1 else 0 := by
  unfold Operation.calibrations newOperation
  have count : ((opChannels p).map OpEntry.fresh).countP (fun x => x.isPending && x.channel == c) =
      (opChannels p).count c := by
    rw [List.countP_map]
    rfl
  simp only [count, List.Nodup.count distinct]
  by_cases hk : k = .calibrate <;> simp [hk]

/-- The operation joins the table (R126 steps 1 and 2). -/
theorem State.Settled.accept {s : State} (h : s.Settled) {k : OpKind} {p : List Byte} (accepts : s.Accepts k p)
    (mode : s.seq.mode ≠ .watch) :
    (s.acceptOperation k p).Coherent [] noJob ∧
      ∀ c, (s.acceptOperation k p).ops.calibrations c =
        s.ops.calibrations c + if k = .calibrate ∧ c ∈ opChannels p then 1 else 0 := by
  obtain ⟨fits, current, tallies⟩ := h.inner.coherent.opsSound
  obtain ⟨free, low, high⟩ := OpEngine.takenId_free fits
  obtain ⟨-, distinct, ids, -, -⟩ := fits
  obtain ⟨fits', current'⟩ := newOperation_sound accepts s.ops.takenId
  obtain ⟨counts, owned⟩ := h.inner.coherent.opJobs
  have next : 1 ≤ nextOpId s.ops.takenId ∧ nextOpId s.ops.takenId ≤ 255 := by
    unfold nextOpId
    split <;> omega
  have old {P : Operation → Prop} (hs : ∀ o ∈ s.ops.table, P o) (new : P (newOperation s.ops.takenId k p)) :
      ∀ o ∈ (s.acceptOperation k p).ops.table, P o := by
    intro o ho
    rcases List.mem_append.mp ho with ho | ho
    · exact hs o ho
    · rw [List.mem_singleton.mp ho]
      exact new
  refine ⟨{ h.inner.coherent with
    opsSound := ⟨⟨?_, ?_, old ids ⟨low, high⟩, next⟩, old current current', old tallies fits'⟩
    opJobs := ⟨old counts ?_, fun j hj op => ?_⟩
    watchSound := fun hw => absurd hw mode }, fun c => ?_⟩
  · show (s.ops.table ++ [_]).length ≤ _
    rw [List.length_append]
    exact accepts.room
  · show ((s.ops.table ++ [newOperation s.ops.takenId k p]).map Operation.opId).Nodup
    rw [List.map_append, List.nodup_append]
    refine ⟨distinct, List.nodup_singleton _, fun a ha b hb => ?_⟩
    rw [List.mem_singleton.mp hb]
    rintro rfl
    exact free ha
  · refine List.countP_eq_zero.mpr fun j hj named => ?_
    obtain ⟨entry, ho⟩ := (Job.ofOp_iff _ _).mp named
    obtain ⟨o, mem, samples⟩ := owned j hj ((Job.isOp_iff j).mpr ⟨_, _, ho⟩)
    have origin := ((Job.samples_iff o j).mp samples).1
    rw [ho] at origin
    have same : s.ops.takenId = o.opId := (Origin.op.inj origin).1
    exact free (same ▸ List.mem_map_of_mem mem)
  · obtain ⟨o, mem, samples⟩ := owned j hj op
    exact ⟨o, List.mem_append_left _ mem, samples⟩
  · rw [OpEngine.calibrations_eq, OpEngine.calibrations_eq, ← newOperation_calibrations accepts.distinct s.ops.takenId]
    show ((s.ops.table ++ [newOperation s.ops.takenId k p]).map _).sum = _
    rw [List.map_append, List.sum_append]
    rfl

/-! ### The start of calibrations (R96, R127) -/

/-- Channels of the DELTA detector that are not OFF start to calibrate. -/
theorem State.ChannelsOk.startCalibrations {s : State} (h : s.ChannelsOk) (cs : List ChanId)
    (can : ∀ c ∈ cs, s.channels[c].config.detector = .delta ∧ s.channels[c].live.state ≠ .off) :
    (cs.foldl (fun t c => t.startCalibration c) s).ChannelsOk ∧
      s.SameBooks (cs.foldl (fun t c => t.startCalibration c) s) ∧
      ∀ d : ChanId, (cs.foldl (fun t c => t.startCalibration c) s).channels[d].live.state = .calibrating ↔
        d ∈ cs ∨ s.channels[d].live.state = .calibrating := by
  induction cs generalizing s with
  | nil => exact ⟨h, ⟨rfl, rfl, rfl, rfl, id⟩, fun d => by simp⟩
  | cons c cs ih =>
    obtain ⟨delta, on⟩ := can c List.mem_cons_self
    obtain ⟨channels, -⟩ := s.startCalibration_parts c
    have started (d : ChanId) : (s.startCalibration c).channels[d].config.detector =
          s.channels[d].config.detector ∧
        (s.startCalibration c).channels[d].live.state =
          if c = d then .calibrating else s.channels[d].live.state := by
      rw [channels, set_channel]
      split
      · next e =>
        subst e
        exact ⟨rfl, rfl⟩
      · exact ⟨rfl, rfl⟩
    obtain ⟨ok, books, calibrating⟩ := ih (h.startCalibration delta on) fun d hd => by
      obtain ⟨delta, on⟩ := can d (List.mem_cons_of_mem _ hd)
      obtain ⟨detector, state⟩ := started d
      refine ⟨detector.trans delta, ?_⟩
      rw [state]
      split
      · decide
      · exact on
    refine ⟨ok, (s.startCalibration_books c).trans books, fun d => (calibrating d).trans ?_⟩
    rw [(started d).2, List.mem_cons]
    by_cases e : c = d
    · simp [e]
    · simp [e, Ne.symm e]

theorem State.admitsOp_calibrate {c : ChanId} {s : State} (h : s.admitsOp .calibrate c = true) :
    s.channels[c].config.detector = .delta ∧ s.channels[c].live.state ≠ .off ∧
      s.channels[c].live.state ≠ .calibrating := by
  simpa [State.admitsOp, and_assoc] using h

/-- An accepted CALIBRATE or MEASURE (R126, R127). -/
theorem State.Settled.startOperation {s : State} (h : s.Settled) {k : OpKind} {p : List Byte}
    (accepts : s.Accepts k p) (mode : s.seq.mode ≠ .watch) : (s.startOperation k p).Settled := by
  obtain ⟨coherent, calibrations⟩ := h.accept accepts mode
  unfold State.startOperation
  cases k with
  | measure =>
    refine State.Inner.settles ⟨coherent, h.inner.channels.of_same rfl rfl, fun c => ?_⟩ (h.grants.congr rfl rfl rfl)
    rw [calibrations c, if_neg (by simp)]
    exact h.inner.calibrations c
  | calibrate =>
    have gone := coherent.withdraw (fun _ => rfl)
      (named := fun j => j.isScan && (opChannels p).contains j.channel) (fun _ => rfl) fun _ lost => by cases lost
    have same := State.withdraw_same (fun j => j.isScan && (opChannels p).contains j.channel)
      (s.acceptOperation .calibrate p)
    have can (c : ChanId) (hc : c ∈ opChannels p) := State.admitsOp_calibrate (accepts.admits c hc)
    obtain ⟨ok, books, calibrating⟩ := State.ChannelsOk.startCalibrations
      (h.inner.channels.of_same same.channels same.locks) (opChannels p) fun c hc => by
        rw [same.channels]
        exact ⟨(can c hc).1, (can c hc).2.1⟩
    refine State.Inner.settles ⟨books.coherent gone.coherent, ok, fun c => ?_⟩
      ((gone.rests (h.grants.congr rfl rfl rfl)).congr books.queue books.res
        (congrArg (fun q => q.mode == .watch) books.seq))
    have before := h.inner.calibrations c
    show OpEngine.calibrations (State.beginCalibration (opChannels p) (s.acceptOperation .calibrate p)).ops c = _
    unfold State.beginCalibration
    rw [books.ops, gone.plans.calibrations, calibrations c, before]
    simp only [calibrating c, same.channels]
    show _ = if c ∈ opChannels p ∨ s.channels[c].live.state = .calibrating then 1 else 0
    by_cases hc : c ∈ opChannels p
    · rw [if_neg (can c hc).2.2, if_pos ⟨trivial, hc⟩, if_pos (Or.inl hc)]
    · simp [hc]

end Sys2Proof.Machine
end

section
/-! ABORT_OP keeps the inner blocks settled (R99, R135). -/

namespace Sys2Proof.Machine

/-- Channels that calibrate, each named once, are released into SETTLING (R99). -/
theorem State.ChannelsOk.abortCalibrations {s : State} (h : s.ChannelsOk) {cs : List ChanId} (distinct : cs.Nodup)
    (state : ∀ c ∈ cs, s.channels[c].live.state = .calibrating) :
    (cs.foldl (fun t c => t.abortCalibration c) s).ChannelsOk ∧
      s.SameBooks (cs.foldl (fun t c => t.abortCalibration c) s) ∧
      ∀ d : ChanId, (cs.foldl (fun t c => t.abortCalibration c) s).channels[d].live.state = .calibrating ↔
        d ∉ cs ∧ s.channels[d].live.state = .calibrating := by
  induction cs generalizing s with
  | nil => exact ⟨h, ⟨rfl, rfl, rfl, rfl, id⟩, fun d => by simp⟩
  | cons c cs ih =>
    obtain ⟨new, distinct⟩ := List.nodup_cons.mp distinct
    obtain ⟨channels, -⟩ := s.abortCalibration_parts c
    have released (d : ChanId) : (s.abortCalibration c).channels[d].live.state =
        if c = d then .settling else s.channels[d].live.state := by
      rw [channels, set_channel]
      split
      · rfl
      · rfl
    obtain ⟨ok, books, calibrating⟩ := ih (h.abortCalibration (state c List.mem_cons_self)) distinct fun d hd => by
      rw [released, if_neg fun e : c = d => new (e ▸ hd)]
      exact state d (List.mem_cons_of_mem _ hd)
    refine ⟨ok, (s.abortCalibration_books c).trans books, fun d => (calibrating d).trans ?_⟩
    rw [released, List.mem_cons, not_or]
    by_cases e : c = d
    · simp [e]
    · simp [e, Ne.symm e]

/-- The PENDING entries of a CALIBRATE operation name channels that calibrate, which no other operation does (R96). -/
theorem State.Inner.calibrates {extra : List Job} {s : State} (h : s.Inner extra) {o : Operation}
    (ho : o ∈ s.ops.table) {c : ChanId} (named : 0 < o.calibrations c) :
    s.channels[c].live.state = .calibrating ∧ (s.ops.remove o.opId).calibrations c = 0 := by
  have counted := OpEngine.calibrations_remove h.coherent.opsSound.1 ho c
  have books := h.calibrations c
  by_cases state : s.channels[c].live.state = .calibrating
  · rw [if_pos state] at books
    exact ⟨state, by omega⟩
  · rw [if_neg state] at books
    omega

theorem Operation.mem_pendingChannels {o : Operation} (kind : o.kind = .calibrate) (c : ChanId) :
    c ∈ o.pendingChannels ↔ 0 < o.calibrations c := by
  unfold Operation.pendingChannels Operation.calibrations
  rw [if_pos kind, List.countP_pos_iff]
  simp [List.mem_map, List.mem_filter, and_assoc]

/-- An abort's releases: the channels of a CALIBRATE operation's PENDING entries stop calibrating, no others (R99, R135
step 3). -/
theorem State.Inner.releaseAborted {extra : List Job} {s : State} (h : s.Inner extra) {o : Operation}
    (ho : o ∈ s.ops.table) :
    (s.releaseAborted o).ChannelsOk ∧ s.SameBooks (s.releaseAborted o) ∧
      ∀ d : ChanId, (s.releaseAborted o).channels[d].live.state = .calibrating ↔
        o.calibrations d = 0 ∧ s.channels[d].live.state = .calibrating := by
  unfold State.releaseAborted
  cases kind : o.kind with
  | measure =>
    refine ⟨h.channels, ⟨rfl, rfl, rfl, rfl, id⟩, fun d => ?_⟩
    simp [Operation.calibrations, kind]
  | calibrate =>
    obtain ⟨-, -, distinct, -⟩ := (Operation.fits_iff o).mp (h.coherent.opsSound.operation ho).1
    have once : o.pendingChannels.Nodup := List.Nodup.sublist (List.filter_sublist.map _) distinct
    obtain ⟨ok, books, calibrating⟩ := h.channels.abortCalibrations once fun c hc =>
      (h.calibrates ho ((Operation.mem_pendingChannels kind c).mp hc)).1
    refine ⟨ok, books, fun d => (calibrating d).trans ?_⟩
    rw [Operation.mem_pendingChannels kind, Nat.pos_iff_ne_zero, not_not]

theorem State.releaseAborted_plan {o p : Operation} (plan : p.plan = o.plan) (s : State) :
    s.releaseAborted p = s.releaseAborted o := by
  obtain ⟨-, kind, -, entries, -⟩ := OpEngine.plan_eq plan
  unfold State.releaseAborted Operation.pendingChannels
  rw [kind, entries]

/-- An operation without a job leaves the table. -/
theorem State.Coherent.removeOperation {s : State} (h : s.Coherent [] noJob) {o : Operation} (ho : o ∈ s.ops.table)
    (none : ∀ j ∈ s.jobs, j.ofOp o.opId = false) :
    State.Coherent [] noJob { s with ops := s.ops.remove o.opId } :=
  { h with
    opsSound := h.opsSound.remove _
    opJobs := OpJobs.remove (List.countP_eq_zero.mpr fun j hj => by simp [none j hj]) (fun p hp _ => h.opJobs.1 p hp)
      h.opJobs.2
    watchSound := fun watch => by
      rw [(h.watchSound watch).1] at ho
      cases ho }

/-- An accepted ABORT_OP (R135). -/
theorem State.Settled.abortOperation {s : State} (h : s.Settled) {o : Operation} (ho : o ∈ s.ops.table) :
    (s.abortOperation o).Settled := by
  have gone := h.inner.coherent.withdraw (fun _ => rfl) (named := Job.ofOp o.opId) (fun _ => rfl)
    fun _ lost => by cases lost
  have inner := h.inner.of_same (State.withdraw_same _ s) gone.plans gone.coherent
  obtain ⟨p, hp, plan⟩ := gone.plans.symm.exists_plan ho
  obtain ⟨id, -⟩ := OpEngine.plan_eq plan
  obtain ⟨ok, books, calibrating⟩ := inner.releaseAborted hp
  rw [State.releaseAborted_plan plan] at ok books calibrating
  have legal : ((Operation.doneRecord true { o with
      entries := closePending (fun _ => true) .aborted o.entries }).payload.length ≤ 128) := by
    obtain ⟨-, ⟨-, length⟩, -⟩ := (Operation.fits_iff o).mp (h.inner.coherent.opsSound.operation ho).1
    exact Record.opDone_legal (by simpa [closePending] using length)
  have recorded := (books.coherent gone.coherent).addRecord legal
  have mem : p ∈ ((s.withdraw (Job.ofOp o.opId)).releaseAborted o).ops.table := by
    rw [books.ops]
    exact hp
  have removed := recorded.removeOperation mem fun j hj => by
    rw [id]
    exact gone.unnamed j (books.jobs ▸ hj)
  unfold State.abortOperation
  rw [id] at removed
  refine State.Inner.settles ⟨removed, ok.of_same rfl rfl, fun c => ?_⟩
    ((gone.rests h.grants).congr books.queue books.res (congrArg (fun q => q.mode == .watch) books.seq))
  have counted := OpEngine.calibrations_remove gone.coherent.opsSound.1 hp c
  have before := inner.calibrations c
  have after := calibrating c
  show OpEngine.calibrations (((s.withdraw (Job.ofOp o.opId)).releaseAborted o).ops.remove o.opId) c =
    if ((s.withdraw (Job.ofOp o.opId)).releaseAborted o).channels[c].live.state = .calibrating then 1 else 0
  rw [id] at counted
  rw [books.ops]
  by_cases named : 0 < p.calibrations c
  · have apart := (inner.calibrates hp named).2
    rw [id] at apart
    rw [if_neg (fun state => named.ne' (after.mp state).1), apart]
  · have none : p.calibrations c = 0 := Nat.eq_zero_of_not_pos named
    simp only [after, none, true_and]
    rw [none, before] at counted
    omega

end Sys2Proof.Machine
end

section
/-! SET_CHANNEL keeps the inner blocks settled; what it makes of the operations table (R15 to R18, R133, R137). -/

namespace Sys2Proof.Machine

/-! ### Closed entries (R16) -/

theorem closePending_idle {named : OpEntry → Bool} {x : EntryOutcome} {es : List OpEntry}
    (h : ∀ e ∈ es, e.isPending = false) : closePending named x es = es := by
  unfold closePending
  conv_rhs => rw [← List.map_id es]
  exact List.map_congr_left fun e he => by simp [h e he]

theorem closePending_channels (named : OpEntry → Bool) (x : EntryOutcome) (es : List OpEntry) :
    (closePending named x es).map OpEntry.channel = es.map OpEntry.channel := by
  unfold closePending
  rw [List.map_map]
  refine List.map_congr_left fun e _ => ?_
  rw [Function.comp_apply]
  split <;> rfl

/-- An operation with its PENDING entries of a channel CANCELLED (R16). -/
def Operation.cancelledFor (c : ChanId) (o : Operation) : Operation :=
  { o with entries := closePending (fun e => e.channel == c) .cancelled o.entries }

theorem Operation.cancelledFor_entry {o : Operation} {c : ChanId} {x : OpEntry}
    (hx : x ∈ (o.cancelledFor c).entries) : (x ∈ o.entries ∧ (x.isPending = true → x.channel ≠ c)) ∨
      ∃ e ∈ o.entries, x = { e with outcome := .cancelled } := by
  obtain ⟨e, he, rfl⟩ := List.mem_map.mp hx
  split
  · exact .inr ⟨e, he, rfl⟩
  · next other => exact .inl ⟨he, fun pending => by simpa [pending] using other⟩

/-- No entry of the channel stays PENDING. -/
theorem Operation.cancelledFor_closed {o : Operation} {c : ChanId} {x : OpEntry}
    (hx : x ∈ (o.cancelledFor c).entries) (pending : x.isPending = true) : x.channel ≠ c := by
  rcases Operation.cancelledFor_entry hx with ⟨-, other⟩ | ⟨e, -, rfl⟩
  · exact other pending
  · cases pending

/-- A sound operation after the cancelling: sound if its current entry is of another channel, otherwise it has to move
on. -/
theorem Operation.Sound.cancelledFor {o : Operation} (h : o.Sound) (c : ChanId) {e : OpEntry}
    (current : o.currentEntry = some e) :
    (o.cancelledFor c).fits = true ∧
      (e.channel ≠ c → (o.cancelledFor c).Sound ∧ (o.cancelledFor c).currentEntry = some e) ∧
      (e.channel = c → (o.cancelledFor c).Ended) := by
  obtain ⟨before, behind, entries, length, idle, pending⟩ := h.split current
  obtain ⟨samples, count, distinct, all⟩ := (Operation.fits_iff o).mp h.1
  have fits : (o.cancelledFor c).fits = true := by
    refine (Operation.fits_iff _).mpr ⟨samples, ?_, ?_, fun x hx => ?_⟩
    · simpa [Operation.cancelledFor, closePending] using count
    · rw [show (o.cancelledFor c).entries = closePending _ _ _ from rfl, closePending_channels]
      exact distinct
    · rcases Operation.cancelledFor_entry hx with ⟨hx, -⟩ | ⟨y, hy, rfl⟩
      · exact all x hx
      · obtain ⟨tallied, -⟩ := (OpEntry.fits_iff_tallied _ _).mp (all y hy)
        exact (OpEntry.fits_iff_tallied _ _).mpr ⟨tallied, fun absent => by cases absent⟩
  have closed : (o.cancelledFor c).entries =
      before ++ (if e.channel = c then { e with outcome := .cancelled } else e) ::
        closePending (fun e => e.channel == c) .cancelled behind := by
    unfold Operation.cancelledFor
    dsimp only
    rw [entries]
    unfold closePending
    rw [List.map_append, List.map_cons]
    congr 1
    · exact closePending_idle idle
    · simp [pending]
  have position : (o.cancelledFor c).current = before.length := length.symm
  refine ⟨fits, fun other => ⟨⟨fits, ?_⟩, ?_⟩, fun same => ⟨?_, ?_⟩⟩
  · rw [closed, position, if_neg other, firstPending_at idle pending]
  · unfold Operation.currentEntry
    rw [closed, position, if_neg other]
    simp
  · rw [closed, position]
    simp
  · rw [closed, position, List.take_length_add_append]
    intro x hx
    rcases List.mem_append.mp hx with hx | hx
    · exact idle x hx
    · rw [List.mem_singleton.mp hx, if_pos same]
      rfl

/-- An operation whose current entry is of a channel without jobs has no job. -/
theorem OpJobs.none_of_spared {e : OpEngine} {xs : List Job} (h : OpJobs e xs) (fits : e.Fits) {o : Operation}
    (ho : o ∈ e.table) {x : OpEntry} (current : o.currentEntry = some x) (spared : ∀ j ∈ xs, j.channel ≠ x.channel) :
    xs.countP (Job.ofOp o.opId) = 0 := by
  refine List.countP_eq_zero.mpr fun j hj named => ?_
  obtain ⟨entry, origin⟩ := (Job.ofOp_iff _ _).mp named
  obtain ⟨p, hp, samples⟩ := h.2 j hj ((Job.isOp_iff j).mpr ⟨_, _, origin⟩)
  obtain ⟨origin', y, hy, channel⟩ := (Job.samples_iff p j).mp samples
  rw [origin, Origin.op.injEq] at origin'
  obtain rfl := fits.unique ho hp origin'.1
  obtain rfl := Option.some.inj (current.symm.trans hy)
  exact spared j hj channel.symm

/-- An operation is replaced by one with the same job. -/
theorem OpJobs.replace {e : OpEngine} {xs : List Job} (h : OpJobs e xs) {o o' : Operation} (ho : o ∈ e.table)
    (fits : e.Fits) (id : o'.opId = o.opId) (outstanding : o'.outstanding = o.outstanding)
    (samples : ∀ j : Job, j.samples o = true → j.samples o' = true) : OpJobs (e.update o') xs := by
  have present : ∃ p ∈ e.table, p.opId = o'.opId := ⟨o, ho, id.symm⟩
  refine ⟨fun p hp => ?_, fun j hj op => ?_⟩
  · rcases (OpEngine.mem_update present).mp hp with rfl | ⟨hp, -⟩
    · rw [id, outstanding]
      exact h.1 o ho
    · exact h.1 p hp
  · obtain ⟨p, hp, hs⟩ := h.2 j hj op
    by_cases same : p.opId = o.opId
    · obtain rfl := fits.unique hp ho same
      exact ⟨o', (OpEngine.mem_update present).mpr (.inl rfl), samples j hs⟩
    · exact ⟨p, (OpEngine.mem_update present).mpr (.inr ⟨hp, id ▸ same⟩), hs⟩

/-- What stands in the table after an operation has moved on. -/
theorem OpEngine.mem_advance {e : OpEngine} {o x : Operation} (present : ∃ p ∈ e.table, p.opId = o.opId) :
    x ∈ (e.advance o).table ↔
      (x ∈ e.table ∧ x.opId ≠ o.opId) ∨ ∃ i, firstPending 0 o.entries = some i ∧ x = { o with current := i } := by
  unfold OpEngine.advance
  cases first : firstPending 0 o.entries with
  | none => simp [OpEngine.remove]
  | some i =>
    simp only [Option.some.injEq, exists_eq_left']
    exact (OpEngine.mem_update (o := { o with current := i }) present).trans or_comm

theorem OpEngine.advance_ids (e : OpEngine) (o : Operation) :
    ((e.advance o).table.map Operation.opId).Sublist (e.table.map Operation.opId) ∧
      (e.advance o).nextId = e.nextId := by
  unfold OpEngine.advance
  split
  · refine ⟨Eq.subst (motive := List.Sublist _) ?_ (List.Sublist.refl _), rfl⟩
    simp only [OpEngine.update, List.map_map]
    refine List.map_congr_left fun p _ => ?_
    by_cases same : p.opId = o.opId <;> simp [same]
  · exact ⟨List.filter_sublist.map _, rfl⟩

/-! ### One operation (R16, R133) -/

/-- `t` differs from `s` in operations and records at most, and the jobs of its operations are in order. -/
structure State.OpsMoved (s t : State) : Prop where
  inner : t.Inner []
  seq : t.seq = s.seq
  queue : t.queue = s.queue
  res : t.res = s.res
  channels : t.channels = s.channels
  locks : t.locks = s.locks

theorem State.OpsMoved.jobs {s t : State} (h : s.OpsMoved t) : t.jobs = s.jobs := by
  unfold State.jobs
  rw [h.queue, h.res]

theorem State.OpsMoved.trans {s t u : State} (h : s.OpsMoved t) (k : t.OpsMoved u) : s.OpsMoved u :=
  ⟨k.inner, k.seq.trans h.seq, k.queue.trans h.queue, k.res.trans h.res, k.channels.trans h.channels,
    k.locks.trans h.locks⟩

/-- A MEASURE operation loses its PENDING entries of a channel without jobs, and moves on if its current one was among
them. -/
theorem State.Inner.cancelIn {s : State} (h : s.Inner []) {c : ChanId} {o : Operation} (ho : o ∈ s.ops.table)
    (kind : o.kind = .measure) (spared : ∀ j ∈ s.jobs, j.channel ≠ c) :
    s.OpsMoved (s.cancelIn c o) ∧ (s.cancelIn c o).ops = s.ops.advance (o.cancelledFor c) ∧
      (s.cancelIn c o).notices =
        if firstPending 0 (o.cancelledFor c).entries = none then
          (s.notices.arrive ((o.cancelledFor c).doneRecord false)).1
        else s.notices := by
  have coherent := h.coherent
  have sound := coherent.opsSound.operation ho
  have fits := coherent.opsSound.1
  obtain ⟨n, e, hn, current, pending, -⟩ := firstPending_some sound.2
  rw [Nat.zero_add] at hn
  subst hn
  obtain ⟨closedFits, other, own⟩ := sound.cancelledFor c current
  have idle (p : Operation) (hk : p.kind = .measure) (d : ChanId) : p.calibrations d = 0 := if_neg (by simp [hk])
  have calibrations (d : ChanId) : (s.ops.advance (o.cancelledFor c)).calibrations d = s.ops.calibrations d := by
    have counted := OpEngine.calibrations_advance fits ho (o := o.cancelledFor c) rfl d
    rwa [idle o kind, idle (o.cancelledFor c) kind] at counted
  have inner {t : State} (ht : t.Coherent [] noJob) (ops : t.ops = s.ops.advance (o.cancelledFor c))
      (channels : t.channels = s.channels) (locks : t.locks = s.locks) : t.Inner [] :=
    ⟨ht, h.channels.of_same channels locks, fun d => by
      rw [ops, calibrations, channels]
      exact h.calibrations d⟩
  unfold State.cancelIn
  rw [show o.currentEntry = some e from current]
  dsimp only
  rw [show { o with entries := closePending (fun e => e.channel == c) .cancelled o.entries } =
    o.cancelledFor c from rfl, pending]
  by_cases same : e.channel = c
  · rw [if_pos (by simp [same])]
    have ended := own same
    have none := coherent.opJobs.none_of_spared fits ho current fun j hj e => spared j hj (e.trans same)
    have outstanding : o.outstanding = false := by
      have count := coherent.opJobs.1 o ho
      rw [none] at count
      cases hb : o.outstanding with
      | false => rfl
      | true => rw [hb] at count; cases count
    obtain ⟨moved, ops⟩ := coherent.moveOn (extra' := []) (t := { s with ops := s.ops.update (o.cancelledFor c) }) ho
      (o := o.cancelledFor c) rfl closedFits outstanding ended coherent.scanJobs none
      (fun p hp _ => coherent.opJobs.1 p hp) coherent.opJobs.2 rfl rfl rfl rfl coherent.legal
    obtain ⟨channels, locks⟩ :=
      State.moveOn_parts (o.cancelledFor c) { s with ops := s.ops.update (o.cancelledFor c) }
    have parts := State.moveOn_ops ended.1 ended.2 { s with ops := s.ops.update (o.cancelledFor c) }
    refine ⟨⟨inner moved ops channels locks, ?_, ?_, ?_, channels, locks⟩, ops, ?_⟩ <;> rw [parts] <;> split <;> rfl
  · rw [if_neg (by simp [same])]
    obtain ⟨soundClosed, stays⟩ := other same
    have first : firstPending 0 (o.cancelledFor c).entries = some (o.cancelledFor c).current := soundClosed.2
    have ops : s.ops.update (o.cancelledFor c) = s.ops.advance (o.cancelledFor c) := by
      unfold OpEngine.advance
      rw [first]
    have watch : s.seq.mode ≠ .watch := fun hw => by
      rw [(coherent.watchSound hw).1] at ho
      cases ho
    have replaced : State.Coherent [] noJob { s with ops := s.ops.update (o.cancelledFor c) } :=
      { coherent with
        opsSound := coherent.opsSound.update ho rfl soundClosed
        opJobs := coherent.opJobs.replace ho fits rfl rfl fun j hj => by
          obtain ⟨origin, x, hx, channel⟩ := (Job.samples_iff o j).mp hj
          obtain rfl := Option.some.inj (current.symm.trans hx)
          exact (Job.samples_iff _ j).mpr ⟨origin, _, stays, channel⟩
        watchSound := fun hw => absurd hw watch }
    refine ⟨⟨inner replaced ops rfl rfl, rfl, rfl, rfl, rfl, rfl⟩, ops, ?_⟩
    rw [if_neg (by simp [first])]

/-! ### Every operation (R16) -/

/-- MEASURE operations of the table, each named once, lose their PENDING entries of a channel without jobs. -/
theorem State.Inner.cancelsIn {s : State} (h : s.Inner []) {c : ChanId} {os : List Operation}
    (mem : ∀ o ∈ os, o ∈ s.ops.table ∧ o.kind = .measure) (distinct : (os.map Operation.opId).Nodup)
    (spared : ∀ j ∈ s.jobs, j.channel ≠ c) :
    s.OpsMoved (os.foldl (fun t o => t.cancelIn c o) s) ∧
      (os.foldl (fun t o => t.cancelIn c o) s).ops =
        (os.map (Operation.cancelledFor c)).foldl (fun e o => e.advance o) s.ops := by
  induction os generalizing s with
  | nil => exact ⟨⟨h, rfl, rfl, rfl, rfl, rfl⟩, rfl⟩
  | cons o os ih =>
    obtain ⟨ho, kind⟩ := mem o List.mem_cons_self
    obtain ⟨new, distinct⟩ := List.nodup_cons.mp distinct
    obtain ⟨moved, ops, -⟩ := h.cancelIn ho kind spared
    obtain ⟨all, ops'⟩ := ih moved.inner (fun p hp => by
        obtain ⟨hp', kind⟩ := mem p (List.mem_cons_of_mem _ hp)
        refine ⟨?_, kind⟩
        rw [ops]
        exact (OpEngine.mem_advance (o := o.cancelledFor c) ⟨o, ho, rfl⟩).mpr
          (.inl ⟨hp', fun e : p.opId = o.opId => new (e ▸ List.mem_map_of_mem hp)⟩))
      distinct (moved.jobs ▸ spared)
    refine ⟨moved.trans all, ops'.trans ?_⟩
    rw [ops]
    rfl

theorem State.Inner.cancelEntries {s : State} (h : s.Inner []) {c : ChanId} (spared : ∀ j ∈ s.jobs, j.channel ≠ c) :
    s.OpsMoved (s.cancelEntries c) ∧ (s.cancelEntries c).ops =
      ((s.ops.table.filter fun o => o.kind == .measure).map (Operation.cancelledFor c)).foldl
        (fun e o => e.advance o) s.ops :=
  h.cancelsIn (fun o ho => by simpa using ho)
    (List.Nodup.sublist (List.filter_sublist.map _) h.coherent.opsSound.1.2.1) spared

/-! ### Reconfiguration (R15 to R18, R137) -/

theorem State.settleOldDetection_parts (c : ChanId) (k : ChannelConfig) (s : State) :
    (s.settleOldDetection c k).channels = s.channels ∧
      (s.settleOldDetection c k).locks = LockAction.free.apply c s.channels[c].config.delta.group s.locks := by
  unfold State.settleOldDetection
  dsimp only
  split
  · exact State.addStateRecord_parts _ _ _ _ _ _ _
  · exact ⟨rfl, rfl⟩

theorem State.rewritten_books (c : ChanId) (k : ChannelConfig) (s : State) :
    s.SameBooks ((s.settleOldDetection c k).writeConfig c k) := by
  have settled : s.SameBooks (s.settleOldDetection c k) := by
    unfold State.settleOldDetection
    dsimp only
    split
    · exact State.addStateRecord_changed _ _ _ _ _ _ ⟨rfl, rfl, rfl, rfl, id⟩
    · exact ⟨rfl, rfl, rfl, rfl, id⟩
  exact settled.trans ⟨rfl, rfl, rfl, rfl, id⟩

theorem State.rewritten_channel (c d : ChanId) (k : ChannelConfig) (s : State) :
    ((s.settleOldDetection c k).writeConfig c k).channels[d] =
      if c = d then { config := k, live := LiveState.cleared k.initialState } else s.channels[d] := by
  unfold State.writeConfig
  rw [(s.settleOldDetection_parts c k).1]
  exact set_channel _ _ _ _

/-- The engine's fills reach only the jobs and the flags of the operations. -/
theorem State.Inner.fillFor {s : State} (h : s.Inner []) (fuel : Nat) :
    (s.fillFor fuel).Inner [] ∧ s.ops.SamePlans (s.fillFor fuel).ops := by
  obtain ⟨coherent, plans⟩ := h.coherent.fillFor fuel
  exact ⟨h.of_same (s.fillFor_same fuel) plans coherent, plans⟩

theorem State.GrantsRest.issueSample {s : State} (h : s.GrantsRest) (o : Operation) : (s.issueSample o).GrantsRest := by
  unfold State.issueSample
  split
  · exact h
  · exact State.enterJob_rests _ _ _

theorem State.fillFor_rests {s : State} (h : s.GrantsRest) (fuel : Nat) : (s.fillFor fuel).GrantsRest := by
  induction fuel generalizing s with
  | zero => exact h
  | succ fuel ih =>
    unfold State.fillFor
    split
    · exact ih (h.issueSample _)
    · exact h

/-- An accepted SET_CHANNEL (R15 to R18, R137). -/
theorem State.Settled.reconfigure {s : State} (h : s.Settled) {c : ChanId} {k : ChannelConfig} (valid : k.valid = true)
    (idle : s.channels[c].live.state ≠ .calibrating) : (s.reconfigure c k).Settled := by
  have gone := h.inner.coherent.withdraw (fun _ => rfl) (named := fun j => j.channel == c) (fun _ => rfl)
    fun _ lost => by cases lost
  have same := State.withdraw_same (fun j => j.channel == c) s
  have withdrawn := h.inner.of_same same gone.plans gone.coherent
  obtain ⟨moved, -⟩ := withdrawn.cancelEntries fun j hj => by simpa using gone.unnamed j hj
  obtain ⟨filled, -⟩ := moved.inner.fillFor ((s.withdraw fun j => j.channel == c).cancelEntries c).ops.table.length
  have fills := State.fillFor_same ((s.withdraw fun j => j.channel == c).cancelEntries c).ops.table.length
    ((s.withdraw fun j => j.channel == c).cancelEntries c)
  have rests := State.fillFor_rests ((gone.rests h.grants).congr moved.queue moved.res
    (congrArg (fun q => q.mode == .watch) moved.seq))
    ((s.withdraw fun j => j.channel == c).cancelEntries c).ops.table.length
  unfold State.reconfigure State.fillPartition
  dsimp only
  generalize State.fillFor _ _ = t at filled fills rests
  have channels : t.channels = s.channels := fills.channels.trans (moved.channels.trans same.channels)
  have books := t.rewritten_books c k
  refine State.Inner.settles ⟨books.coherent filled.coherent, filled.channels.reconfigured c valid, fun d => ?_⟩
    (rests.congr books.queue books.res (congrArg (fun q => q.mode == .watch) books.seq))
  rw [books.ops, State.rewritten_channel, filled.calibrations d]
  by_cases e : c = d
  · subst e
    obtain ⟨-, -, -, -, out⟩ := State.ChannelsOk.initialState_parts k
    rw [if_pos rfl, channels, if_neg idle]
    exact (if_neg out).symm
  · rw [if_neg e]

end Sys2Proof.Machine
end

section
/-! Every step keeps the inner blocks settled: the walk over the commands (R43, R50, R69, R96, R128). -/

namespace Sys2Proof.Machine

/-! ### Settled by each service (R75, R177 to R179) -/

/-- A service leaves settled the inner blocks that it finds settled outside WATCH. -/
def Settles (serve : List Byte → State → State × Reply) (p : List Byte) : Prop :=
  ∀ t : State, t.Settled → t.res.Agree → t.seq.mode ≠ .watch → (serve p t).1.Settled

theorem guarded_settles {refuse : List Byte → State → Option Refused} {effect : List Byte → State → State}
    {p : List Byte} (kept : ∀ t : State, refuse p t = none → t.Settled → t.res.Agree → t.seq.mode ≠ .watch →
      (effect p t).Settled) : Settles (Machine.guarded refuse effect) p := by
  intro t ht agree mode
  unfold Machine.guarded
  split
  · exact ht
  · next accepted => exact kept t accepted ht agree mode

theorem RequestKind.lengthOk_of_generic {k : RequestKind} {p : List Byte} (h : k.generic p = none) :
    k.lengthOk p = true := by
  unfold RequestKind.generic at h
  split at h
  · next length => exact length
  · cases h

theorem serveOperation_settles {k : OpKind} {p : List Byte} (length : p.length = 2 + byteAt p 1) :
    Settles (serveOperation k) p := by
  intro t ht _ mode
  unfold serveOperation
  split
  · exact ht
  · next accepted => exact ht.startOperation (State.refuseOperation_none accepted length) mode

theorem setChannel_settles (p : List Byte) : Settles serveSetChannel p := by
  refine guarded_settles fun t accepted ht _ _ => ?_
  obtain ⟨-, idle, range, consistent⟩ := State.refuseSetChannel_none accepted
  exact ht.reconfigure (configOf_valid range consistent) idle

theorem scanStart_settles (p : List Byte) : Settles serveScanStart p := by
  refine guarded_settles fun t accepted ht agree mode => ?_
  obtain ⟨m, named, -, watch⟩ := State.refuseScanStart_none accepted
  rw [named]
  exact ht.startScan agree mode watch _

theorem abortOp_settles (p : List Byte) : Settles serveAbortOp p := by
  intro t ht _ _
  unfold serveAbortOp
  split
  · exact ht
  · next found => exact ht.abortOperation (OpEngine.find_mem found).1

theorem setLink_settles (p : List Byte) : Settles serveSetLink p := by
  intro t ht _ _
  unfold serveSetLink
  split
  · exact ht
  · exact ht.link t.line _ t.handler t.resetHeld t.pending

/-- A change of the notice queue that keeps its records legal. -/
theorem State.Settled.setNotices {s : State} (h : s.Settled) {q : NoticeQueue} (legal : q.Legal) :
    State.Settled { s with notices := q } :=
  ⟨h.inner.of_coherent { h.inner.coherent with legal := legal } rfl rfl (.refl _), h.producers,
    h.grants.congr rfl rfl rfl⟩

theorem NoticeQueue.Legal.flushed {q : NoticeQueue} (h : q.Legal) (scope : FlushScope) : (q.flushed scope).Legal := by
  cases scope with
  | inFlight => exact h
  | queue | both =>
    intro r hr
    cases hr

theorem NoticeQueue.Legal.offer {q q' : NoticeQueue} {body : NoticeBody} (h : q.Legal)
    (offered : q.offer = some (body, q')) : q'.Legal ∧ ∀ r, body = .record r → r.payload.length ≤ 128 := by
  unfold NoticeQueue.offer at offered
  split at offered
  · split at offered
    · cases offered
    · next r rs records =>
      cases offered
      refine ⟨fun x hx => h x (records ▸ List.mem_cons_of_mem _ hx), fun x e => ?_⟩
      cases e
      exact h r (records ▸ List.mem_cons_self)
  · cases offered
    exact ⟨h, fun x e => by cases e⟩

theorem flush_settles (p : List Byte) : Settles serveFlush p := by
  intro t ht _ _
  unfold serveFlush
  split
  · exact ht
  · next scope _ =>
    exact (ht.setNotices (ht.inner.coherent.legal.flushed scope)).link t.line _ t.handler t.resetHeld t.pending

/-! ### Taking a request (R75, R177) -/

theorem State.Settled.beginTaking {s : State} (h : s.Settled) (rest : List Frame) :
    (s.beginTaking rest).Settled ∧ (s.beginTaking rest).seq.mode ≠ .watch := by
  obtain ⟨woken, mode⟩ :=
    (h.link s.line s.delivery { s.handler with requests := rest } s.resetHeld s.pending).wake .host
  exact ⟨woken.link _ _ _ _ _, mode⟩

theorem State.Settled.takeRequest {s : State} (h : s.Settled) (agree : s.res.Agree) (ofKind : Byte → Bool)
    (service : Service)
    (served : ∀ f t, t.Settled → t.res.Agree → t.seq.mode ≠ .watch → (service f t).1.Settled) :
    (s.takeRequest ofKind service).Settled := by
  obtain ⟨f, rest, -, -, -, ht⟩ | ht := s.takeRequest_cases ofKind service
  · rw [ht]
    obtain ⟨taken, mode⟩ := h.beginTaking rest
    unfold State.answer
    split
    · exact taken.link _ _ _ _ _
    · have done := served f _ taken (State.agree_kept.beginTaking rest agree) mode
      unfold State.updateCache
      dsimp only
      split
      · exact done.link _ _ _ _ _
      · exact done.link _ _ _ _ _
  · rw [ht]
    exact h

theorem State.Settled.request {s : State} (h : s.Settled) (agree : s.res.Agree) {k : RequestKind}
    {serve : List Byte → State → State × Reply} (served : ∀ p, k.lengthOk p = true → Settles serve p) :
    Yields State.Settled (.next (s.request k serve)) := by
  refine .next (h.takeRequest agree _ _ fun f t ht agree mode => ?_)
  unfold checked
  split
  · exact ht
  · next passed => exact served f.payload (RequestKind.lengthOk_of_generic passed) t ht agree mode

/-- The commands of the request handler that carry out one defined kind. -/
theorem State.Settled.requests {s : State} (h : s.Settled) (agree : s.res.Agree) {c : Instr} {k : RequestKind}
    (hk : requestKindOf c = some k) : Yields State.Settled (exec c s) := by
  cases c <;> simp only [requestKindOf, reduceCtorEq] at hk
  case ping => exact h.request agree fun _ _ _ ht _ _ => ht
  case getStatus => exact h.request agree fun _ _ _ ht _ _ => ht
  case setLink => exact h.request agree fun p _ => setLink_settles p
  case setChannel => exact h.request agree fun p _ => setChannel_settles p
  case getChannel =>
    refine h.request agree fun p _ t ht _ _ => ?_
    unfold serveGetChannel
    split <;> exact ht
  case setScan => exact h.request agree fun p _ => guarded_settles fun _ accepted ht _ _ => ht.setScan accepted
  case getScan => exact h.request agree fun _ _ _ ht _ _ => ht
  case scanStart => exact h.request agree fun p _ => scanStart_settles p
  case scanStop => exact h.request agree fun _ _ _ ht _ mode => ht.stopScan mode
  case calibrate =>
    refine h.request agree fun p length => serveOperation_settles ?_
    simp only [RequestKind.lengthOk, Bool.and_eq_true, decide_eq_true_eq] at length
    exact length.2
  case measure =>
    refine h.request agree fun p length => serveOperation_settles ?_
    simp only [RequestKind.lengthOk, Bool.and_eq_true, decide_eq_true_eq] at length
    exact length.2
  case abortOp => exact h.request agree fun p _ => abortOp_settles p
  case flushNotices => exact h.request agree fun p _ => flush_settles p
  case resetPart => exact h.request agree fun _ _ t ht _ _ => ht.link t.line t.delivery _ t.resetHeld t.pending

/-! ### The other commands -/

theorem State.afterReset_settled (k : ResetKind) (speed : LineSpeed) (p : LinkParams) (held : Bool) (s : State) :
    (s.afterReset k speed p held).Settled :=
  (s.afterReset_sound k speed LinkParams.default_inRange held).settled.link _ (Delivery.reset p) _ _ _

theorem State.Settled.arriveRequest {s : State} (h : s.Settled) (f : Frame) : (s.arriveRequest f).Settled := by
  have hunting : (s.setReceiver .hunt).Settled := h.link _ s.delivery s.handler s.resetHeld s.pending
  have ended : (State.endStalled ((s.setReceiver .hunt).wake .host)).Settled :=
    (hunting.wake .host).1.link _ _ _ _ _
  unfold State.arriveRequest
  generalize State.endStalled _ = t at ended
  unfold State.offerRequest
  split
  · exact ended.link t.line t.delivery _ t.resetHeld t.pending
  · exact ended.link _ t.delivery t.handler t.resetHeld t.pending

theorem State.Settled.receiving {s : State} (h : s.Settled) (b : Byte) :
    Yields State.Settled (execByteReceived b s) ∧ Yields State.Settled (execLengthDiscard b s) ∧
      Yields State.Settled (execCrcMismatch b s) ∧ Yields State.Settled (execForeignFrame b s) ∧
      Yields State.Settled (execAck b s) ∧ Yields State.Settled (execRequestFrameArrival b s) := by
  have received {t : State} (l : Line) (d : Delivery)
      (e : t = { s with line := l, delivery := d, handler := s.handler }) : t.Settled :=
    e ▸ h.link l d s.handler s.resetHeld s.pending
  refine ⟨?_, ?_, ?_, ?_, ?_, ?_⟩
  · unfold execByteReceived; split
    exacts [.next (received _ _ rfl), .next h]
  · unfold execLengthDiscard; split
    exacts [.next (received _ _ rfl), .next h]
  · unfold execCrcMismatch; split
    exacts [.next (received _ _ rfl), .next h]
  · unfold execForeignFrame; split
    exacts [.next (received _ _ rfl), .next h]
  · unfold execAck; split
    exacts [.next (received _ _ rfl), .next h]
  · unfold execRequestFrameArrival; split
    exacts [.next (h.arriveRequest _), .next h]

theorem State.Settled.transmitting {s : State} (h : s.Settled) :
    Yields State.Settled (execGapTimeout s) ∧ Yields State.Settled (execReplyTransmission s) ∧
      Yields State.Settled (execFirstTransmission s) ∧ Yields State.Settled (execNoticeResend s) ∧
      Yields State.Settled (execFrameEnd s) ∧ Yields State.Settled (execAckTimerExpiry s) := by
  have linked {t : State} (l : Line) (d : Delivery) (x : Handler)
      (e : t = { s with line := l, delivery := d, handler := x }) : Yields State.Settled (.next t) :=
    .next (e ▸ h.link l d x s.resetHeld s.pending)
  refine ⟨?_, ?_, ?_, ?_, ?_, ?_⟩
  · unfold execGapTimeout; split
    exacts [linked _ _ _ rfl, .next h]
  · unfold execReplyTransmission; split
    · exact .next h
    · split
      exacts [linked _ _ _ rfl, .next h]
  · unfold execFirstTransmission; split
    · exact .next h
    · next body q offered =>
      split
      · exact .next ((h.setNotices (h.inner.coherent.legal.offer offered).1).link _ _ s.handler s.resetHeld s.pending)
      · exact .next h
  · unfold execNoticeResend; split
    · exact .next h
    · split
      exacts [linked _ _ _ rfl, .next h]
  · unfold execFrameEnd; split
    · exact .next h
    · split
      exacts [.next h, linked _ _ _ rfl]
  · unfold execAckTimerExpiry; split
    exacts [linked _ _ _ rfl, .next h]

theorem State.Settled.exec {s : State} (h : s.Settled) (agree : s.res.Agree) (c : Instr) :
    Yields State.Settled (exec c s) := by
  cases hk : requestKindOf c with
  | some k => exact h.requests agree hk
  | none =>
    cases c <;> simp only [requestKindOf, reduceCtorEq] at hk
    case powerReset speed => exact .next (s.afterReset_settled _ _ _ _)
    case pinReset speed => exact .next (s.afterReset_settled _ _ _ _)
    case softReset speed =>
      show Yields State.Settled (execSoftReset speed s)
      unfold execSoftReset
      split
      exacts [.next (s.afterReset_settled _ _ _ _), .next h]
    case undefinedRequestKind => exact .next (h.takeRequest agree _ _ fun _ _ ht _ _ => ht)
    case byteReceived b => exact (h.receiving b).1
    case lengthDiscard b => exact (h.receiving b).2.1
    case crcMismatch b => exact (h.receiving b).2.2.1
    case foreignFrame b => exact (h.receiving b).2.2.2.1
    case ack b => exact (h.receiving b).2.2.2.2.1
    case requestFrameArrival b => exact (h.receiving b).2.2.2.2.2
    case gapTimeout => exact h.transmitting.1
    case replyTransmission => exact h.transmitting.2.1
    case firstTransmission => exact h.transmitting.2.2.1
    case noticeResend => exact h.transmitting.2.2.2.1
    case frameEnd => exact h.transmitting.2.2.2.2.1
    case ackTimerExpiry => exact h.transmitting.2.2.2.2.2
    case roundTimerExpiry => exact h.roundTimer
    case settleEdge u dt => exact (h.units u .rising dt).1
    case gateEdge u dt => exact (h.units u .rising dt).2.1
    case gateClose u => exact (h.units u .rising 0).2.2.1
    case armingEdge u dt => exact (h.units u .rising dt).2.2.2.1
    case periodEdge u dt => exact (h.units u .rising dt).2.2.2.2.1
    case intervalArmingEdge u e dt => exact (h.units u e dt).2.2.2.2.2.1
    case intervalFinalEdge u e dt => exact (h.units u e dt).2.2.2.2.2.2.1
    case spanTimeout u => exact (h.units u .rising 0).2.2.2.2.2.2.2
    case resetHeldLow => exact .next (h.link { s.line with tx := none } s.delivery s.handler true s.pending)

/-- Every step leaves the inner blocks settled. -/
theorem State.Settled.step {s t : State} (h : s.Settled) (agree : s.res.Agree) (ht : step s = .next t) : t.Settled := by
  refine Yields.of_next (P := State.Settled) (ht ▸ ?_)
  unfold Machine.step
  split
  · exact .next h.idle
  · next c rest _ => exact (h.link s.line s.delivery s.handler s.resetHeld rest).exec agree c

end Sys2Proof.Machine
end

section
/-! What the delivery's own changes keep: the numbering of the notices in flight, the pass set, the ack timer and HOLD
(R164 to R173). -/

namespace Sys2Proof.Machine

/-! ### Sequence numbers (R164, R166) -/

theorem seqAfter_range {n : Nat} (h : 1 ≤ n ∧ n ≤ 255) : 1 ≤ seqAfter n ∧ seqAfter n ≤ 255 := by
  unfold seqAfter
  split <;> omega

theorem numberedUpTo_cons {next : Nat} {x : Notice} {xs : List Notice} :
    numberedUpTo next (x :: xs) = true ↔ (1 ≤ x.seq ∧ x.seq ≤ 255) ∧
      seqAfter x.seq = (xs.head?.map Notice.seq).getD next ∧ numberedUpTo next xs = true := by
  cases xs <;> simp [numberedUpTo, inRange, and_assoc]

/-- The younger notices of a numbered list are numbered. -/
theorem numberedUpTo_suffix {next : Nat} {pre xs : List Notice} (h : numberedUpTo next (pre ++ xs) = true) :
    numberedUpTo next xs = true := by
  induction pre with
  | nil => exact h
  | cons x pre ih => exact ih (numberedUpTo_cons.mp h).2.2

/-- A notice with the next number joins. -/
theorem numberedUpTo_send {next : Nat} {xs : List Notice} (h : numberedUpTo next xs = true)
    (range : 1 ≤ next ∧ next ≤ 255) (body : NoticeBody) :
    numberedUpTo (seqAfter next) (xs ++ [{ seq := next, body := body }]) = true := by
  induction xs with
  | nil => exact numberedUpTo_cons.mpr ⟨range, rfl, rfl⟩
  | cons x xs ih =>
    obtain ⟨inside, follows, rest⟩ := numberedUpTo_cons.mp h
    refine numberedUpTo_cons.mpr ⟨inside, follows.trans ?_, ih rest⟩
    cases xs <;> rfl

/-- The number of each notice, from that of the oldest. -/
theorem numberedUpTo_get {next i : Nat} {x y : Notice} {xs : List Notice}
    (h : numberedUpTo next (x :: xs) = true) (hy : (x :: xs)[i]? = some y) : y.seq = (x.seq - 1 + i) % 255 + 1 := by
  induction xs generalizing x i with
  | nil =>
    obtain ⟨inside, -⟩ := numberedUpTo_cons.mp h
    cases i with
    | zero =>
      cases hy
      omega
    | succ i => simp at hy
  | cons z zs ih =>
    obtain ⟨inside, follows, rest⟩ := numberedUpTo_cons.mp h
    cases i with
    | zero =>
      cases hy
      omega
    | succ i =>
      have later := ih rest hy
      have follows : seqAfter x.seq = z.seq := follows
      unfold seqAfter at follows
      split at follows <;> omega

/-- Few enough notices in flight have different numbers. -/
theorem numberedUpTo_apart {next : Nat} {pre xs : List Notice} (h : numberedUpTo next (pre ++ xs) = true)
    (few : (pre ++ xs).length ≤ 255) {n : Notice} (old : n ∈ pre) : n ∉ xs := by
  intro young
  obtain ⟨i, hi⟩ := List.mem_iff_getElem?.mp old
  obtain ⟨j, hj⟩ := List.mem_iff_getElem?.mp young
  obtain ⟨inside, -⟩ := List.getElem?_eq_some_iff.mp hi
  obtain ⟨inside', -⟩ := List.getElem?_eq_some_iff.mp hj
  cases hp : pre ++ xs with
  | nil => simp_all
  | cons x rest =>
    have early : (x :: rest)[i]? = some n := by rw [← hp, List.getElem?_append_left inside, hi]
    have late : (x :: rest)[pre.length + j]? = some n := by
      rw [← hp, List.getElem?_append_right (Nat.le_add_right _ _), Nat.add_sub_cancel_left, hj]
    rw [hp] at h
    have first := numberedUpTo_get h early
    have second := numberedUpTo_get h late
    simp only [List.length_append] at few
    omega

/-! ### The notices that an ACK frame leaves (R168) -/

theorem youngerThan_some {n : Nat} {xs rest : List Notice} (h : youngerThan n xs = some rest) :
    ∃ x pre, xs = pre ++ x :: rest := by
  induction xs with
  | nil => cases h
  | cons x xs ih =>
    unfold youngerThan at h
    split at h
    · cases h
      exact ⟨x, [], rfl⟩
    · obtain ⟨y, pre, rfl⟩ := ih h
      exact ⟨y, x :: pre, rfl⟩

/-- A young end of the notices in flight, without those acknowledged, is a young end of those left. -/
theorem filter_suffix {next : Nat} {old rest pass : List Notice} (h : numberedUpTo next (old ++ rest) = true)
    (few : (old ++ rest).length ≤ 255) (suffix : pass <:+ old ++ rest) :
    pass.filter (fun x => rest.contains x) <:+ rest := by
  have kept (xs : List Notice) (hx : ∀ x ∈ xs, x ∈ rest) : xs.filter (fun x => rest.contains x) = xs :=
    List.filter_eq_self.mpr fun x mem => by simpa using hx x mem
  rcases List.suffix_or_suffix_of_suffix suffix (List.suffix_append old rest) with short | ⟨pre, rfl⟩
  · rw [kept pass fun x mem => short.subset mem]
    exact short
  · obtain ⟨older, whole⟩ := suffix
    rw [← List.append_assoc] at whole
    obtain rfl := List.append_cancel_right whole
    have gone : pre.filter (fun x => rest.contains x) = [] :=
      List.filter_eq_nil_iff.mpr fun x mem => by
        simpa using numberedUpTo_apart h few (List.mem_append_right older mem)
    rw [List.filter_append, gone, kept rest fun x mem => mem]
    exact List.suffix_rfl

/-! ### The delivery's changes -/

/-- The delivery is sound, and its notices make legal frames of the part. -/
structure Delivery.Flies (d : Delivery) : Prop where
  sound : d.Sound
  own : ∀ n ∈ d.inFlight, n.frame.isOwn = true

namespace Delivery

variable {d : Delivery}

/-- Outside HOLD notices are enabled. -/
theorem Sound.enabled (h : d.Sound) (state : d.state ≠ .hold) : d.params.notices = true := by
  obtain ⟨-, -, -, -, -, -, -, -, -, hold⟩ := h
  exact Bool.eq_true_of_not_eq_false fun off => state (hold.mpr off)

/-- The ack timer stands still outside OPEN. -/
theorem Sound.untimed (h : d.Sound) (state : d.state ≠ .opened) : d.ackTimer = none := by
  obtain ⟨-, -, -, -, -, -, -, -, timer, -⟩ := h
  exact Classical.byContradiction fun runs => state (timer runs).1

theorem opened_iff_hold {b : Bool} (h : b = true) : (DeliveryState.opened = .hold ↔ b = false) := by simp [h]

/-- A resend pass begins, with any retry count in range (R170). -/
theorem Sound.beginPass (h : d.Sound) (notices : d.params.notices = true) {n : Nat} (hn : n ≤ 7) :
    (Delivery.beginPass { d with retries := n }).Sound := by
  obtain ⟨params, few, numbered, low, high, -, -, -, -, -⟩ := h
  unfold Delivery.beginPass
  dsimp only
  refine ⟨params, few, numbered, low, high, hn, List.suffix_rfl, fun state => ?_, fun runs => absurd rfl runs, ?_⟩
  · cases hi : d.inFlight with
    | nil => rfl
    | cons x xs => simp [hi] at state
  · split <;> simp [notices]

theorem Sound.endPass (h : d.Sound) (notices : d.params.notices = true) : d.endPass.Sound := by
  obtain ⟨params, few, numbered, low, high, retries, -, -, -, -⟩ := h
  unfold Delivery.endPass
  refine ⟨params, few, numbered, low, high, retries, List.nil_suffix, fun _ => rfl, fun runs => ⟨rfl, ?_⟩,
    opened_iff_hold notices⟩
  rintro empty
  have empty : d.inFlight = [] := empty
  simp [empty] at runs

theorem Flies.endStalled (h : d.Flies) : d.endStalled.Flies := by
  unfold Delivery.endStalled
  split
  · next state => exact ⟨h.sound.beginPass (h.sound.enabled (by simp [state])) (Nat.zero_le _), h.own⟩
  · exact h

theorem Flies.atBoundary (h : d.Flies) : d.atBoundary.Flies := by
  unfold Delivery.atBoundary
  split
  · next state => exact ⟨h.sound.endPass (h.sound.enabled (by simp [state.1])), h.own⟩
  · exact h

theorem Flies.firstEnded (h : d.Flies) : d.firstEnded.Flies := by
  unfold Delivery.firstEnded
  split
  · next at_ =>
    obtain ⟨state, -, some⟩ := at_
    obtain ⟨params, few, numbered, low, high, retries, suffix, pass, -, hold⟩ := h.sound
    exact ⟨⟨params, few, numbered, low, high, retries, suffix, pass, fun _ => ⟨state, some⟩, hold⟩, h.own⟩
  · exact h

theorem Flies.frameEnded (h : d.Flies) (source : TxSource) : (d.frameEnded source).Flies := by
  cases source with
  | first => exact h.firstEnded.atBoundary
  | reply | resend => exact h.atBoundary

/-- The expiry of the ack timer in OPEN (R169). -/
theorem Flies.expired (h : d.Flies) (state : d.state = .opened) : d.expired.Flies := by
  have notices := h.sound.enabled (by simp [state])
  obtain ⟨params, few, numbered, low, high, retries, suffix, pass, -, -⟩ := h.sound
  unfold Delivery.expired
  split
  · next below =>
    obtain ⟨-, -, -, -, limit⟩ := params
    exact ⟨h.sound.beginPass notices (by omega), h.own⟩
  · refine ⟨⟨params, few, numbered, low, high, retries, suffix, fun _ => pass (by simp [state]),
      fun runs => absurd rfl runs, ?_⟩, h.own⟩
    simp [notices]

/-- An accepted SET_LINK (R172, R173). -/
theorem Flies.setParams (h : d.Flies) {p : LinkParams} (hp : p.InRange) : (d.setParams p).Flies := by
  obtain ⟨-, few, numbered, low, high, retries, suffix, pass, timer, hold⟩ := h.sound
  unfold Delivery.setParams
  dsimp only
  split
  · next notices =>
    unfold Delivery.enable
    split
    · next held =>
      have held : d.state = .hold := held
      refine ⟨?_, h.own⟩
      unfold Delivery.beginPass
      dsimp only
      refine ⟨hp, few, numbered, low, high, Nat.zero_le _, List.suffix_rfl, fun state => ?_,
        fun runs => absurd rfl runs, ?_⟩
      · cases hi : d.inFlight with
        | nil => rfl
        | cons x xs => simp [hi] at state
      · split <;> simp [notices]
    · next other =>
      have other : d.state ≠ .hold := other
      exact ⟨⟨hp, few, numbered, low, high, retries, suffix, pass, timer, by simp [other, notices]⟩, h.own⟩
  · next off =>
    have off : p.notices = false := by simpa using off
    have held : ({ d with params := p, state := .hold, passSet := [], ackTimer := none } : Delivery).Flies :=
      ⟨⟨hp, few, numbered, low, high, retries, List.nil_suffix, fun _ => rfl, fun runs => absurd rfl runs,
        by simp [off]⟩, h.own⟩
    unfold Delivery.disable
    dsimp only
    cases state : d.state with
    | opened | resend | stalled => exact held
    | hold =>
      refine ⟨⟨hp, few, numbered, low, high, retries, suffix, ?_, ?_, ?_⟩, h.own⟩
      · exact fun _ => pass (by simp [state])
      · exact fun runs => absurd (timer runs).1 (by simp [state])
      · simp [off]

/-- A notice transmitted for the first time (R166). -/
theorem Flies.send (h : d.Flies) (first : d.mayFirst = true) {body : NoticeBody}
    (own : (Notice.frame { seq := d.nextSeq, body := body }).isOwn = true) : (d.send body).Flies := by
  simp only [Delivery.mayFirst, Bool.and_eq_true, beq_iff_eq, decide_eq_true_eq] at first
  obtain ⟨state, window⟩ := first
  obtain ⟨params, few, numbered, low, high, retries, -, pass, timer, hold⟩ := h.sound
  have ⟨_, four, _⟩ := params
  obtain ⟨low', high'⟩ := seqAfter_range ⟨low, high⟩
  have none := pass (by simp [state])
  refine ⟨⟨params, ?_, numberedUpTo_send numbered ⟨low, high⟩ body, low', high', retries, ?_, pass, ?_, hold⟩,
    fun n hn => ?_⟩
  · show (d.inFlight ++ [_]).length ≤ 4
    rw [List.length_append]
    exact Nat.succ_le_of_lt (window.trans_le four)
  · show d.passSet <:+ _
    rw [none]
    exact List.nil_suffix
  · exact fun runs => ⟨state, by simp [Delivery.send]⟩
  · rcases List.mem_append.mp hn with hn | hn
    · exact h.own n hn
    · rw [List.mem_singleton.mp hn]
      exact own

/-- The oldest notice of the pass set is sent again (R170). -/
theorem Flies.resent (h : d.Flies) {n : Notice} {rest : List Notice} (pass : d.passSet = n :: rest) :
    Delivery.Flies { d with passSet := rest } ∧ n.frame.isOwn = true := by
  obtain ⟨params, few, numbered, low, high, retries, suffix, only, timer, hold⟩ := h.sound
  rw [pass] at suffix
  refine ⟨⟨⟨params, few, numbered, low, high, retries, (List.suffix_cons n rest).trans suffix, fun state => ?_, timer,
    hold⟩, h.own⟩, h.own n (suffix.subset List.mem_cons_self)⟩
  have empty := only state
  rw [pass] at empty
  cases empty

/-- The in-flight set discarded whole (R152). -/
theorem Flies.flushed (h : d.Flies) (scope : FlushScope) (boundary : Bool) : (d.flushed scope boundary).Flies := by
  obtain ⟨params, -, -, low, high, -, -, -, -, hold⟩ := h.sound
  have discarded : d.discardInFlight.Flies :=
    ⟨⟨params, Nat.zero_le _, rfl, low, high, Nat.zero_le _, List.suffix_rfl, fun _ => rfl, fun runs => absurd rfl runs,
      hold⟩, fun n hn => by cases hn⟩
  unfold Delivery.flushed
  cases scope with
  | queue => exact h
  | inFlight | both =>
    dsimp only
    split
    · exact discarded.atBoundary
    · exact discarded

/-- One REFCLK period passes at the ack timer. -/
theorem Flies.retimed (h : d.Flies) : Delivery.Flies { d with ackTimer := d.ackTimer.map Timer.pass } := by
  obtain ⟨params, few, numbered, low, high, retries, suffix, pass, timer, hold⟩ := h.sound
  refine ⟨⟨params, few, numbered, low, high, retries, suffix, pass, fun runs => timer fun off => ?_, hold⟩, h.own⟩
  exact runs (by rw [off]; rfl)

/-- An ACK frame (R168, R170). -/
theorem Flies.acknowledge (h : d.Flies) (resendOnLine : Bool) (n : Nat) : (d.acknowledge resendOnLine n).Flies := by
  unfold Delivery.acknowledge
  split
  · next rest found =>
    obtain ⟨x, pre, split⟩ := youngerThan_some found
    obtain ⟨params, few, numbered, low, high, -, suffix, pass, timer, hold⟩ := h.sound
    have split : d.inFlight = (pre ++ [x]) ++ rest := by rw [split, List.append_assoc]; rfl
    have own : ∀ y ∈ rest, y.frame.isOwn = true := fun y hy => h.own y (split ▸ List.mem_append_right _ hy)
    rw [split] at few numbered suffix
    have left := filter_suffix numbered (few.trans (by decide)) suffix
    have short : rest.length ≤ 4 := by
      rw [List.length_append] at few
      omega
    have numbered := numberedUpTo_suffix numbered
    have still (state : d.state ≠ .resend) : (d.removed rest).passSet = [] := by
      unfold Delivery.removed
      rw [pass state]
      rfl
    have stays (state : d.state ≠ .opened) : (d.removed rest).Sound :=
      ⟨params, short, numbered, low, high, Nat.zero_le _, left, still,
        fun runs => absurd (h.sound.untimed state) runs, hold⟩
    unfold Delivery.afterRemoval
    cases state : d.state with
    | opened =>
      rw [show (d.removed rest).state = .opened from state]
      refine ⟨⟨params, short, numbered, low, high, Nat.zero_le _, left, fun _ => still (by simp [state]),
        fun runs => ⟨rfl, ?_⟩, opened_iff_hold (h.sound.enabled (by simp [state]))⟩, own⟩
      rintro empty
      have empty : rest = [] := empty
      simp [empty, Delivery.removed] at runs
    | resend =>
      rw [show (d.removed rest).state = .resend from state]
      have sound := stays (by simp [state])
      dsimp only
      split
      · exact ⟨sound.endPass (h.sound.enabled (by simp [state])), own⟩
      · exact ⟨sound, own⟩
    | stalled =>
      rw [show (d.removed rest).state = .stalled from state]
      exact ⟨stays (by simp [state]), own⟩
    | hold =>
      rw [show (d.removed rest).state = .hold from state]
      exact ⟨stays (by simp [state]), own⟩
  · exact h

end Delivery

end Sys2Proof.Machine
end

section
/-! Every step keeps the line, the delivery and the request handler sound: the walk over the commands (R157 to R184). -/

namespace Sys2Proof.Machine

/-! ### Frames (R157, R180) -/

/-- The line, the delivery and the handler are sound, and the frame on the line is a frame of the part. -/
structure State.Linked (s : State) : Prop where
  delivery : s.delivery.Flies
  handler : s.handler.Sound
  line : s.line.Sound
  sending : s.line.tx.all (fun x => x.frame.isOwn) = true

theorem State.Sound.linked {s : State} (h : s.Sound) : s.Linked :=
  ⟨⟨h.deliverySound, h.framesLegal.2.1⟩, h.handlerSound, h.lineSound, h.framesLegal.2.2⟩

theorem Frame.isRequest_iff (f : Frame) :
    f.isRequest = true ↔ f.payload.length ≤ 128 ∧ f.kind ≠ ackKind ∧ partKind f.kind = false := by
  simp [Frame.isRequest, Frame.legal, and_assoc]

theorem Frame.isOwn_iff (f : Frame) : f.isOwn = true ↔ f.payload.length ≤ 128 ∧ partKind f.kind = true := by
  simp [Frame.isOwn, Frame.legal]

/-- The kind of a reply is a kind of the part. -/
theorem partKind_reply {k : Byte} (h : partKind k = false) : partKind (k + 0x80#8) = true := by
  simp only [partKind, decide_eq_false_iff_not, decide_eq_true_eq] at h ⊢
  rw [BitVec.toNat_add]
  simp only [BitVec.toNat_ofNat]
  omega

theorem replyFrame_own {f : Frame} (kind : partKind f.kind = false) {r : Reply} (length : r.rest.length ≤ 127) :
    (replyFrame f r).isOwn = true :=
  (Frame.isOwn_iff _).mpr ⟨Nat.succ_le_succ length, partKind_reply kind⟩

theorem Record.kind_part (r : Record) : partKind r.kind = true := by
  cases r <;> rfl

/-- The first transmission of a notice whose record makes a legal frame sends a frame of the part. -/
theorem Notice.frame_own {body : NoticeBody} (legal : ∀ r, body = .record r → r.payload.length ≤ 128) (n : Nat) :
    (Notice.frame { seq := n, body := body }).isOwn = true := by
  refine (Frame.isOwn_iff _).mpr ?_
  cases body with
  | record r => exact ⟨legal r rfl, r.kind_part⟩
  | overflow t => exact ⟨by simp [Notice.frame, NoticeBody.payload], (by decide : partKind 0xC6#8 = true)⟩

/-! ### The receiver (R159, R162) -/

theorem frameOfBody_payload (body : List Byte) : (frameOfBody body).payload.length = body.length - 2 := List.length_drop

/-- What a byte does within a frame of a legal length: the receiver stays within one, and a request is a request. -/
theorem Receiver.take_fits {r : Receiver} (h : r.fits = true) (b : Byte) :
    (∀ r', r.take b = .advance r' → r'.fits = true) ∧ ∀ f, r.take b = .request f → f.isRequest = true := by
  cases r with
  | hunt =>
    unfold Receiver.take
    refine ⟨fun r' e => ?_, fun f e => by cases e⟩
    rw [← ByteEvent.advance.inj e]
    split <;> rfl
  | length =>
    unfold Receiver.take
    dsimp only
    split
    · next range =>
      refine ⟨fun r' e => ?_, fun f e => by cases e⟩
      cases e
      have long : 0 < b.toNat := by
        simp only [inRange, Bool.and_eq_true, decide_eq_true_eq] at range
        omega
      simp [Receiver.fits, range, long]
    · exact ⟨fun r' e => (by cases e), fun f e => by cases e⟩
  | body len got =>
    simp only [Receiver.fits, Bool.and_eq_true, decide_eq_true_eq] at h
    obtain ⟨range, inside⟩ := h
    unfold Receiver.take
    dsimp only
    split
    · next full =>
      refine ⟨fun r' e => ?_, fun f e => by cases e⟩
      cases e
      have exact_ : got.length + 1 = len := by omega
      simp [Receiver.fits, range, exact_]
    · next more =>
      refine ⟨fun r' e => ?_, fun f e => by cases e⟩
      cases e
      have below : got.length + 1 < len := by omega
      simp [Receiver.fits, range, below]
  | crc len got low =>
    simp only [Receiver.fits, Bool.and_eq_true, decide_eq_true_eq] at h
    obtain ⟨range, length⟩ := h
    cases low with
    | none =>
      refine ⟨fun r' e => ?_, fun f e => by cases e⟩
      cases e
      simp [Receiver.fits, range, length]
    | some low =>
      have short : (frameOfBody got).payload.length ≤ 128 := by
        simp only [inRange, Bool.and_eq_true, decide_eq_true_eq] at range
        rw [frameOfBody_payload]
        omega
      unfold Receiver.take endFrame dispatchFrame
      dsimp only
      split
      · split
        · split <;> exact ⟨fun r' e => (by cases e), fun f e => by cases e⟩
        · next notAck =>
          split
          · exact ⟨fun r' e => (by cases e), fun f e => by cases e⟩
          · next notPart =>
            refine ⟨fun r' e => (by cases e), fun f e => ?_⟩
            cases e
            exact (Frame.isRequest_iff _).mpr ⟨short, notAck, by simpa using notPart⟩
      · exact ⟨fun r' e => (by cases e), fun f e => by cases e⟩

theorem State.byteEvent_some {b : Byte} {s : State} {e : ByteEvent} (h : s.byteEvent b = some e) :
    s.line.receiver.take b = e := by
  unfold State.byteEvent at h
  split at h
  · cases h
  · exact Option.some.inj h

/-! ### The link outside the handler -/

namespace State.Linked

variable {s : State}

theorem received (h : s.Linked) {r : Receiver} (fits : r.fits = true) : (s.setReceiver r).Linked :=
  ⟨h.delivery, h.handler, ⟨fits, h.line.2⟩, h.sending⟩

theorem discarded (h : s.Linked) (cause : DiscardCause) : (s.discardFrame cause).Linked :=
  ⟨h.delivery, h.handler, ⟨rfl, bump_le _⟩, h.sending⟩

theorem sends (h : s.Linked) (source : TxSource) {f : Frame} (own : f.isOwn = true) : (s.transmit source f).Linked :=
  ⟨h.delivery, h.handler, h.line, own⟩

theorem delivers (h : s.Linked) {d : Delivery} (hd : d.Flies) : State.Linked { s with delivery := d } :=
  ⟨hd, h.handler, h.line, h.sending⟩

theorem boundary (h : s.Linked) : State.Linked { s with line := { s.line with tx := none } } :=
  ⟨h.delivery, h.handler, h.line, rfl⟩

/-- The inner blocks do not reach the link. -/
theorem kept : KeptInside State.Linked where
  seq _ _ h := ⟨h.delivery, h.handler, h.line, h.sending⟩
  ops _ _ h := ⟨h.delivery, h.handler, h.line, h.sending⟩
  choices _ _ h := ⟨h.delivery, h.handler, h.line, h.sending⟩
  locks _ _ h := ⟨h.delivery, h.handler, h.line, h.sending⟩
  live _ _ _ h := ⟨h.delivery, h.handler, h.line, h.sending⟩
  config _ _ _ h _ := ⟨h.delivery, h.handler, h.line, h.sending⟩
  record _ _ h := ⟨h.delivery, h.handler, h.line, h.sending⟩
  granted _ h := ⟨h.delivery, h.handler, h.line, h.sending⟩
  entered _ _ _ h _ := ⟨h.delivery, h.handler, h.line, h.sending⟩
  dropped _ _ h := ⟨h.delivery, h.handler, h.line, h.sending⟩
  released _ _ _ h _ := ⟨h.delivery, h.handler, h.line, h.sending⟩
  unit _ _ _ _ h _ _ _ _ := ⟨h.delivery, h.handler, h.line, h.sending⟩

theorem arriveRequest (h : s.Linked) {f : Frame} (hf : f.isRequest = true) : (s.arriveRequest f).Linked := by
  have woken := kept.wake .host (h.received (r := .hunt) rfl)
  have ended : (State.endStalled ((s.setReceiver .hunt).wake .host)).Linked := woken.delivers woken.delivery.endStalled
  unfold State.arriveRequest
  generalize State.endStalled _ = t at ended
  unfold State.offerRequest
  split
  · next room =>
    obtain ⟨-, replies, requests, own, cache⟩ := ended.handler
    refine ⟨ended.delivery, ⟨?_, replies, fun x hx => ?_, own, cache⟩, ended.line, ended.sending⟩
    · show (t.handler.requests ++ [f]).length ≤ _
      rw [List.length_append]
      exact room
    · rcases List.mem_append.mp hx with hx | hx
      · exact requests x hx
      · rw [List.mem_singleton.mp hx]
        exact hf
  · exact ended.discarded _

/-- The commands of the receiver. -/
theorem receiving (h : s.Linked) (b : Byte) :
    Yields State.Linked (execByteReceived b s) ∧ Yields State.Linked (execLengthDiscard b s) ∧
      Yields State.Linked (execCrcMismatch b s) ∧ Yields State.Linked (execForeignFrame b s) ∧
      Yields State.Linked (execAck b s) ∧ Yields State.Linked (execRequestFrameArrival b s) := by
  obtain ⟨advance, request⟩ := Receiver.take_fits h.line.1 b
  refine ⟨?_, ?_, ?_, ?_, ?_, ?_⟩
  · unfold execByteReceived; split
    · next he => exact .next (h.received (advance _ (State.byteEvent_some he)))
    · exact .next h
  · unfold execLengthDiscard; split
    exacts [.next (h.discarded _), .next h]
  · unfold execCrcMismatch; split
    exacts [.next (h.discarded _), .next h]
  · unfold execForeignFrame; split
    exacts [.next (h.discarded _), .next h]
  · unfold execAck; split
    exacts [.next ((h.received (r := .hunt) rfl).delivers (h.delivery.acknowledge _ _)), .next h]
  · unfold execRequestFrameArrival; split
    · next he => exact .next (h.arriveRequest (request _ (State.byteEvent_some he)))
    · exact .next h

/-- The commands of the transmitter and of the ack timer. -/
theorem transmitting (h : s.Linked) (legal : s.notices.Legal) :
    Yields State.Linked (execGapTimeout s) ∧ Yields State.Linked (execReplyTransmission s) ∧
      Yields State.Linked (execFirstTransmission s) ∧ Yields State.Linked (execNoticeResend s) ∧
      Yields State.Linked (execFrameEnd s) ∧ Yields State.Linked (execAckTimerExpiry s) := by
  refine ⟨?_, ?_, ?_, ?_, ?_, ?_⟩
  · unfold execGapTimeout; split
    exacts [.next (h.discarded _), .next h]
  · unfold execReplyTransmission; split
    · exact .next h
    · next f rest waits =>
      split
      · obtain ⟨few, replies, requests, own, cache⟩ := h.handler
        rw [waits] at replies own
        have taken : State.Linked { s with handler := { s.handler with replies := rest } } :=
          ⟨h.delivery, ⟨few, (Nat.le_succ _).trans replies, requests,
            fun x hx => own x (List.mem_cons_of_mem _ hx), cache⟩, h.line, h.sending⟩
        exact .next (taken.sends .reply (own f List.mem_cons_self))
      · exact .next h
  · unfold execFirstTransmission; split
    · exact .next h
    · next body q offered =>
      split
      · next free =>
        simp only [Bool.and_eq_true] at free
        have own := Notice.frame_own (legal.offer offered).2 s.delivery.nextSeq
        have sent : State.Linked { s with notices := q, delivery := s.delivery.send body } :=
          ⟨h.delivery.send free.2 own, h.handler, h.line, h.sending⟩
        exact .next (sent.sends .first own)
      · exact .next h
  · unfold execNoticeResend; split
    · exact .next h
    · next pass =>
      split
      · obtain ⟨resent, own⟩ := h.delivery.resent pass
        exact .next ((h.delivers resent).sends .resend own)
      · exact .next h
  · unfold execFrameEnd; split
    · exact .next h
    · split
      · exact .next h
      · exact .next (h.boundary.delivers (h.delivery.frameEnded _))
  · unfold execAckTimerExpiry; split
    · next due => exact .next (h.delivers (h.delivery.expired due.1))
    · exact .next h

theorem idle (h : s.Linked) : s.idle.Linked := by
  unfold State.idle
  split
  · exact h
  · have timed : State.Linked
        { s with
          seq := { s.seq with timer := s.seq.timer.map Timer.pass }
          delivery := { s.delivery with ackTimer := s.delivery.ackTimer.map Timer.pass } } :=
      ⟨h.delivery.retimed, h.handler, h.line, h.sending⟩
    have passUnit {t : State} (ht : t.Linked) (u : UnitId) : (t.passUnit u).Linked := by
      unfold State.passUnit
      split
      · exact ht
      · exact ⟨ht.delivery, ht.handler, ht.line, ht.sending⟩
    exact passUnit (passUnit (passUnit (passUnit timed 0) 1) 2) 3

theorem resets (h : s.Linked) (speed : LineSpeed) :
    Yields State.Linked (execPowerReset speed s) ∧ Yields State.Linked (execPinReset speed s) ∧
      Yields State.Linked (execSoftReset speed s) := by
  refine ⟨.next (State.afterReset_sound _ _ LinkParams.default_inRange _ _).linked,
    .next (State.afterReset_sound _ _ LinkParams.default_inRange _ _).linked, ?_⟩
  unfold execSoftReset
  split
  exacts [.next (State.afterReset_sound _ _ h.delivery.sound.1 _ _).linked, .next h]

end State.Linked

end Sys2Proof.Machine
end

section
/-! The requests keep the line, the delivery and the handler sound, and every reply is a legal frame (R157, R175 to
R183); with that every step keeps a state sound. -/

namespace Sys2Proof.Machine

/-! ### The lengths of the replies (R187) -/

theorem liveBytes_length (l : LiveState) : (liveBytes l).length = 29 := by
  simp [liveBytes, optionalLE, optionalSignedLE, signedLE_length]

theorem State.statusBytes_length (s : State) : s.statusBytes.length = 26 + 4 * s.ops.table.length := by
  have all (os : List Operation) : ((os.map Operation.statusBytes).flatten).length = 4 * os.length := by
    induction os with
    | nil => rfl
    | cons o os ih =>
      rw [List.map_cons, List.flatten_cons, List.length_append, ih]
      show 4 + _ = 4 * (os.length + 1)
      omega
  simp only [State.statusBytes, List.length_append, all, bytesLE_length, List.length_cons, List.length_nil]

/-! ### Services -/

/-- A sound link whose reply queue is as it was. -/
structure State.Serving (replies : List Frame) (s : State) : Prop where
  linked : s.Linked
  same : s.handler.replies = replies

theorem State.Serving.kept (replies : List Frame) : KeptInside (State.Serving replies) where
  seq s q h := ⟨State.Linked.kept.seq s q h.linked, h.same⟩
  ops s e h := ⟨State.Linked.kept.ops s e h.linked, h.same⟩
  choices s n h := ⟨State.Linked.kept.choices s n h.linked, h.same⟩
  locks s ls h := ⟨State.Linked.kept.locks s ls h.linked, h.same⟩
  live s c l h := ⟨State.Linked.kept.live s c l h.linked, h.same⟩
  config s c k h valid := ⟨State.Linked.kept.config s c k h.linked valid, h.same⟩
  record s r h := ⟨State.Linked.kept.record s r h.linked, h.same⟩
  granted s h := ⟨State.Linked.kept.granted s h.linked, h.same⟩
  entered s o c h free := ⟨State.Linked.kept.entered s o c h.linked free, h.same⟩
  dropped s named h := ⟨State.Linked.kept.dropped s named h.linked, h.same⟩
  released s u r h busy := ⟨State.Linked.kept.released s u r h.linked busy, h.same⟩
  unit s u q r h busy job cell time := ⟨State.Linked.kept.unit s u q r h.linked busy job cell time, h.same⟩

/-- A service keeps the link sound and the reply queue as it is, and its reply makes a legal frame. -/
def Replies (serve : List Byte → State → State × Reply) (p : List Byte) : Prop :=
  ∀ (replies : List Frame) (t : State), t.Settled → t.Serving replies →
    (serve p t).1.Serving replies ∧ (serve p t).2.rest.length ≤ 127

theorem guarded_replies {refuse : List Byte → State → Option Refused} {effect : List Byte → State → State}
    {p : List Byte} (kept : ∀ replies t, refuse p t = none → t.Serving replies → (effect p t).Serving replies) :
    Replies (Machine.guarded refuse effect) p := by
  intro replies t _ ht
  unfold Machine.guarded
  split
  · exact ⟨ht, Nat.one_le_ofNat⟩
  · next accepted => exact ⟨kept replies t accepted ht, Nat.zero_le _⟩

theorem serveOperation_replies (k : OpKind) (p : List Byte) : Replies (serveOperation k) p := by
  intro replies t _ ht
  unfold serveOperation
  split
  · exact ⟨ht, Nat.one_le_ofNat⟩
  · exact ⟨(State.Serving.kept replies).startOperation k p ht, Nat.one_le_ofNat⟩

theorem abortOp_replies (p : List Byte) : Replies serveAbortOp p := by
  intro replies t _ ht
  unfold serveAbortOp
  split
  · exact ⟨ht, Nat.one_le_ofNat⟩
  · exact ⟨(State.Serving.kept replies).abortOperation _ ht, Nat.zero_le _⟩

theorem setChannel_replies (p : List Byte) : Replies serveSetChannel p :=
  guarded_replies fun replies _ accepted ht => by
    obtain ⟨-, -, range, consistent⟩ := State.refuseSetChannel_none accepted
    exact (State.Serving.kept replies).reconfigure _ _ (configOf_valid range consistent) ht

theorem getChannel_replies (p : List Byte) : Replies serveGetChannel p := by
  intro replies t _ ht
  unfold serveGetChannel
  split
  · exact ⟨ht, Nat.one_le_ofNat⟩
  · refine ⟨ht, ?_⟩
    simp only [Reply.okWith, List.length_append, configBytes_length, liveBytes_length]
    omega

theorem getScan_replies (p : List Byte) : Replies serveGetScan p := by
  intro replies t settled ht
  obtain ⟨-, -, -, -, -, length, -⟩ := settled.inner.coherent.seqSound
  refine ⟨ht, ?_⟩
  show (scanBytes t.seq).length ≤ 127
  rw [scanBytes_length]
  have length : t.seq.list.length ≤ 32 := length
  omega

theorem getStatus_replies (p : List Byte) : Replies serveGetStatus p := by
  intro replies t settled ht
  obtain ⟨⟨length, -⟩, -⟩ := settled.inner.coherent.opsSound
  refine ⟨ht, ?_⟩
  show t.statusBytes.length ≤ 127
  rw [State.statusBytes_length]
  have length : t.ops.table.length ≤ 4 := length
  omega

/-- A SET_LINK payload that passes the checks spells parameters in their ranges (R172). -/
theorem linkParams_inRange {p : List Byte} (h : firstFailing (linkChecks p) = none) : (linkParams p).InRange := by
  simp only [linkChecks, firstFailing, inRange] at h
  split at h
  · split at h
    · split at h
      · next window timeout retry =>
        simp only [Bool.and_eq_true, decide_eq_true_eq] at window timeout retry
        exact ⟨window.1, window.2, timeout.1, timeout.2, retry.2⟩
      · cases h
    · cases h
  · cases h

theorem setLink_replies (p : List Byte) : Replies serveSetLink p := by
  intro replies t _ ht
  unfold serveSetLink
  split
  · exact ⟨ht, Nat.one_le_ofNat⟩
  · next passed =>
    exact ⟨⟨ht.linked.delivers (ht.linked.delivery.setParams (linkParams_inRange passed)), ht.same⟩, Nat.zero_le _⟩

theorem flush_replies (p : List Byte) : Replies serveFlush p := by
  intro replies t _ ht
  unfold serveFlush
  split
  · exact ⟨ht, Nat.one_le_ofNat⟩
  · next scope _ =>
    have flushed := ht.linked.delivery.flushed scope t.line.tx.isNone
    exact ⟨⟨⟨flushed, ht.linked.handler, ht.linked.line, ht.linked.sending⟩, ht.same⟩, Nat.zero_le _⟩

/-! ### Taking a request (R177, R178) -/

/-- A reply joins a reply queue with room. -/
theorem State.Linked.placeReply {s : State} (h : s.Linked) {f : Frame} (own : f.isOwn = true)
    (room : s.handler.replies.length < Config.replyCapacity) : (s.placeReply f).Linked := by
  obtain ⟨few, -, requests, replies, cache⟩ := h.handler
  refine ⟨h.delivery, ⟨few, ?_, requests, fun x hx => ?_, cache⟩, h.line, h.sending⟩
  · show (s.handler.replies ++ [f]).length ≤ _
    rw [List.length_append]
    exact room
  · rcases List.mem_append.mp hx with hx | hx
    · exact replies x hx
    · rw [List.mem_singleton.mp hx]
      exact own

/-- The cache takes the reply to a request. -/
theorem State.Linked.updateCache {s : State} (h : s.Linked) {f : Frame} (kind : partKind f.kind = false) {r : Reply}
    (length : r.rest.length ≤ 127) : (s.updateCache f (replyFrame f r)).Linked := by
  obtain ⟨few, waits, requests, replies, -⟩ := h.handler
  unfold State.updateCache
  split
  · exact h
  · next tag =>
    refine ⟨h.delivery, ⟨few, waits, requests, replies, ?_⟩, h.line, h.sending⟩
    obtain ⟨short, -⟩ := (Frame.isOwn_iff _).mp (replyFrame_own kind length)
    simp only [Option.all_some, CacheEntry.fits, Frame.legal, Bool.and_eq_true, bne_iff_ne, ne_eq, beq_iff_eq,
      Bool.not_eq_true', decide_eq_true_eq]
    exact ⟨⟨⟨⟨tag, kind⟩, short⟩, rfl⟩, rfl⟩

/-- A cached reply is a frame of the part. -/
theorem Handler.cached_own {h : Handler} (fits : h.cache.all CacheEntry.fits = true) {f reply : Frame}
    (hc : h.cached f = some reply) : reply.isOwn = true := by
  unfold Handler.cached at hc
  split at hc
  · cases hc
  · next e he =>
    split at hc
    · cases hc
      rw [he] at fits
      simp only [Option.all_some, CacheEntry.fits, Frame.legal, Bool.and_eq_true, bne_iff_ne, ne_eq, beq_iff_eq,
        Bool.not_eq_true', decide_eq_true_eq] at fits
      obtain ⟨⟨⟨⟨-, kind⟩, short⟩, same⟩, -⟩ := fits
      exact (Frame.isOwn_iff _).mpr ⟨short, same ▸ partKind_reply kind⟩
    · cases hc

theorem State.Linked.beginTaking {s : State} (h : s.Linked) {f : Frame} {rest : List Frame}
    (waits : s.handler.requests = f :: rest) :
    (s.beginTaking rest).Serving s.handler.replies ∧ partKind f.kind = false := by
  obtain ⟨few, room, requests, own, cache⟩ := h.handler
  rw [waits] at few requests
  have shorter : State.Serving s.handler.replies { s with handler := { s.handler with requests := rest } } :=
    ⟨⟨h.delivery, ⟨(Nat.le_succ _).trans few, room, fun x hx => requests x (List.mem_cons_of_mem _ hx), own, cache⟩,
      h.line, h.sending⟩, rfl⟩
  have woken := (State.Serving.kept _).wake .host shorter
  obtain ⟨-, -, kind⟩ := (Frame.isRequest_iff f).mp (requests f List.mem_cons_self)
  exact ⟨⟨woken.linked.delivers woken.linked.delivery.endStalled, woken.same⟩, kind⟩

theorem State.Linked.takeRequest {s : State} (h : s.Linked) (settled : s.Settled) (ofKind : Byte → Bool)
    (service : Service) (served : ∀ f replies t, t.Settled → t.Serving replies →
      (service f t).1.Serving replies ∧ (service f t).2.rest.length ≤ 127) : (s.takeRequest ofKind service).Linked := by
  obtain ⟨f, rest, waits, ready, -, ht⟩ | ht := s.takeRequest_cases ofKind service
  · rw [ht]
    obtain ⟨taken, kind⟩ := h.beginTaking waits
    have room : s.handler.replies.length < Config.replyCapacity := by
      simp only [Handler.canTake, Bool.and_eq_true, decide_eq_true_eq] at ready
      exact ready.2
    unfold State.answer
    split
    · next found =>
      obtain ⟨-, -, -, -, cache⟩ := taken.linked.handler
      exact taken.linked.placeReply (Handler.cached_own cache found) (taken.same ▸ room)
    · obtain ⟨done, length⟩ := served f _ _ (settled.beginTaking rest).1 taken
      exact (done.linked.placeReply (replyFrame_own kind length) (done.same ▸ room)).updateCache kind length
  · rw [ht]
    exact h

theorem State.Linked.request {s : State} (h : s.Linked) (settled : s.Settled) {k : RequestKind}
    {serve : List Byte → State → State × Reply} (served : ∀ p, k.lengthOk p = true → Replies serve p) :
    Yields State.Linked (.next (s.request k serve)) := by
  refine .next (h.takeRequest settled _ _ fun f replies t ht serving => ?_)
  unfold checked
  split
  · exact ⟨serving, Nat.one_le_ofNat⟩
  · next passed => exact served f.payload (RequestKind.lengthOk_of_generic passed) replies t ht serving

/-- The commands of the request handler that carry out one defined kind. -/
theorem State.Linked.requests {s : State} (h : s.Linked) (settled : s.Settled) {c : Instr} {k : RequestKind}
    (hk : requestKindOf c = some k) : Yields State.Linked (exec c s) := by
  cases c <;> simp only [requestKindOf, reduceCtorEq] at hk
  case ping =>
    refine h.request settled (k := .ping) fun p length replies t _ ht => ⟨ht, ?_⟩
    simp only [RequestKind.lengthOk, decide_eq_true_eq] at length
    show (Config.identity ++ p).length ≤ 127
    rw [List.length_append]
    show 5 + p.length ≤ 127
    omega
  case getStatus => exact h.request settled fun p _ => getStatus_replies p
  case setLink => exact h.request settled fun p _ => setLink_replies p
  case setChannel => exact h.request settled fun p _ => setChannel_replies p
  case getChannel => exact h.request settled fun p _ => getChannel_replies p
  case setScan =>
    exact h.request settled fun p _ => guarded_replies fun replies t _ ht => (State.Serving.kept replies).seq t _ ht
  case getScan => exact h.request settled fun p _ => getScan_replies p
  case scanStart =>
    exact h.request settled fun p _ => guarded_replies fun replies t _ ht =>
      (State.Serving.kept replies).startScan _ _ ht
  case scanStop =>
    exact h.request settled fun p _ replies t _ ht =>
      ⟨(State.Serving.kept replies).seq t.abandon _ ((State.Serving.kept replies).abandon ht), Nat.zero_le _⟩
  case calibrate => exact h.request settled fun p _ => serveOperation_replies .calibrate p
  case measure => exact h.request settled fun p _ => serveOperation_replies .measure p
  case abortOp => exact h.request settled fun p _ => abortOp_replies p
  case flushNotices => exact h.request settled fun p _ => flush_replies p
  case resetPart =>
    exact h.request settled fun p _ replies t _ ht =>
      ⟨⟨⟨ht.linked.delivery, ht.linked.handler, ht.linked.line, ht.linked.sending⟩, ht.same⟩, Nat.zero_le _⟩

/-! ### The other commands -/

/-- The commands of the counting units do not reach the link. -/
theorem State.Linked.units {s : State} (h : s.Linked) (u : UnitId) (e : Edge) (dt : Nat) :
    Yields State.Linked (execSettleEdge u dt s) ∧ Yields State.Linked (execGateEdge u dt s) ∧
      Yields State.Linked (execGateClose u s) ∧ Yields State.Linked (execArmingEdge u dt s) ∧
      Yields State.Linked (execPeriodEdge u dt s) ∧ Yields State.Linked (execIntervalArmingEdge u e dt s) ∧
      Yields State.Linked (execIntervalFinalEdge u e dt s) ∧ Yields State.Linked (execSpanTimeout u s) := by
  have stays (r : Running) : (s.setUnit u r).Linked := ⟨h.delivery, h.handler, h.line, h.sending⟩
  have completes {test : Running → Bool} {q : Running} (hq : s.takesEdge u dt test = some q) (reading : Reading) :
      (s.completeJob u q reading).Linked := by
    obtain ⟨x, busy, -, rfl, -⟩ := State.takesEdge_some hq
    exact State.Linked.kept.completeJob u x _ reading h busy rfl rfl
  refine ⟨?_, ?_, ?_, ?_, ?_, ?_, ?_, ?_⟩
  · unfold execSettleEdge; split
    exacts [.next (stays _), .next h]
  · unfold execGateEdge; split
    exacts [.next (stays _), .next h]
  · unfold execGateClose; split
    · next r busy =>
      split
      exacts [.next (State.Linked.kept.completeJob u r r _ h busy rfl rfl), .next h]
    · exact .next h
  · unfold execArmingEdge; split
    exacts [.next (stays _), .next h]
  · unfold execPeriodEdge; split
    · next hq =>
      split
      exacts [.next (completes hq _), .next (stays _)]
    · exact .next h
  · unfold execIntervalArmingEdge; split
    exacts [.next (stays _), .next h]
  · unfold execIntervalFinalEdge; split
    · next hq =>
      split
      exacts [.next (completes hq _), .next (stays _)]
    · exact .next h
  · unfold execSpanTimeout; split
    · next r busy =>
      split
      exacts [.next h, .next (State.Linked.kept.completeJob u r r _ h busy rfl rfl)]
    · exact .next h

theorem State.Linked.roundTimer {s : State} (h : s.Linked) : Yields State.Linked (execRoundTimerExpiry s) := by
  unfold execRoundTimerExpiry
  split
  · exact .next h
  · dsimp only
    split
    · refine .next ?_
      unfold State.overrun
      dsimp only
      split <;> exact ⟨h.delivery, h.handler, h.line, h.sending⟩
    · exact .next (State.Linked.kept.drive (State.Linked.kept.seq s _ h))

theorem State.Linked.exec {s : State} (h : s.Linked) (settled : s.Settled) (c : Instr) :
    Yields State.Linked (exec c s) := by
  have sending := h.transmitting settled.inner.coherent.legal
  cases hk : requestKindOf c with
  | some k => exact h.requests settled hk
  | none =>
    cases c <;> simp only [requestKindOf, reduceCtorEq] at hk
    case powerReset speed => exact (h.resets speed).1
    case pinReset speed => exact (h.resets speed).2.1
    case softReset speed => exact (h.resets speed).2.2
    case undefinedRequestKind =>
      exact .next (h.takeRequest settled _ _ fun _ _ _ _ ht => ⟨ht, Nat.one_le_ofNat⟩)
    case byteReceived b => exact (h.receiving b).1
    case lengthDiscard b => exact (h.receiving b).2.1
    case crcMismatch b => exact (h.receiving b).2.2.1
    case foreignFrame b => exact (h.receiving b).2.2.2.1
    case ack b => exact (h.receiving b).2.2.2.2.1
    case requestFrameArrival b => exact (h.receiving b).2.2.2.2.2
    case gapTimeout => exact sending.1
    case replyTransmission => exact sending.2.1
    case firstTransmission => exact sending.2.2.1
    case noticeResend => exact sending.2.2.2.1
    case frameEnd => exact sending.2.2.2.2.1
    case ackTimerExpiry => exact sending.2.2.2.2.2
    case roundTimerExpiry => exact h.roundTimer
    case settleEdge u dt => exact (h.units u .rising dt).1
    case gateEdge u dt => exact (h.units u .rising dt).2.1
    case gateClose u => exact (h.units u .rising 0).2.2.1
    case armingEdge u dt => exact (h.units u .rising dt).2.2.2.1
    case periodEdge u dt => exact (h.units u .rising dt).2.2.2.2.1
    case intervalArmingEdge u e dt => exact (h.units u e dt).2.2.2.2.2.1
    case intervalFinalEdge u e dt => exact (h.units u e dt).2.2.2.2.2.2.1
    case spanTimeout u => exact (h.units u .rising 0).2.2.2.2.2.2.2
    case resetHeldLow => exact .next ⟨h.delivery, h.handler, h.line, rfl⟩

/-- Every step keeps the link sound. -/
theorem State.Linked.step {s t : State} (h : s.Linked) (settled : s.Settled) (ht : step s = .next t) : t.Linked := by
  refine Yields.of_next (P := State.Linked) (ht ▸ ?_)
  unfold Machine.step
  split
  · exact .next h.idle
  · next c rest _ =>
    have linked : State.Linked { s with pending := rest } := ⟨h.delivery, h.handler, h.line, h.sending⟩
    exact linked.exec (settled.link s.line s.delivery s.handler s.resetHeld rest) c

/-! ### The whole part -/

/-- A state is sound when its notices, its waiting jobs, its resources and its ranges are, its inner blocks are
settled and its link is sound. -/
theorem State.sound_of {s : State} (notices : s.notices.Sound) (waiting : s.QueueSound) (agree : s.res.Agree)
    (ranges : s.InRanges) (settled : s.Settled) (linked : s.Linked) : s.Sound := by
  obtain ⟨noticesFit, stretched, tallyFits⟩ := notices
  obtain ⟨jobsFit, passCountsFit⟩ := waiting
  obtain ⟨configsValid, snapshotsValid, clocksSound⟩ := ranges
  obtain ⟨⟨coherent, channels, calibrationsSound⟩, producersRest, grantsRest⟩ := settled
  obtain ⟨opsFit, currentPending, talliesFit⟩ := coherent.opsSound
  have lives (c : ChanId) := (LiveState.fits_iff _ _).mp (channels.fits c)
  exact
    { noticesFit, stretched, tallyFits, jobsFit, passCountsFit, configsValid, snapshotsValid, clocksSound
      calibrationsSound, producersRest, grantsRest, opsFit, currentPending, talliesFit
      resourcesAgree := agree
      livesInRange := fun c => (lives c).1
      channelsSound := fun c => (lives c).2.1
      suppressedSound := fun c => (lives c).2.2
      locksSound := channels.locks
      sequencerSound := coherent.seqSound
      opJobsSound := ⟨coherent.opJobs.1, fun j hj op => List.any_eq_true.mpr (coherent.opJobs.2 j hj op)⟩
      scanJobsSound := ⟨coherent.scanJobs.owns, coherent.scanJobs.2⟩
      watchSound := coherent.watchSound
      deliverySound := linked.delivery.sound
      handlerSound := linked.handler
      framesLegal := ⟨coherent.legal, linked.delivery.own, linked.sending⟩
      lineSound := linked.line }

/-- A sound state steps into a sound state. -/
theorem State.Sound.step {s t : State} (h : s.Sound) (ht : step s = .next t) : t.Sound :=
  State.sound_of
    (State.noticesSound_kept.of_step (s := s) ⟨h.noticesFit, h.stretched, h.tallyFits⟩ ht)
    (State.queueSound_kept.of_step (s := s) ⟨h.jobsFit, h.passCountsFit⟩ ht)
    (State.agree_kept.of_step (s := s) h.resourcesAgree ht)
    (State.inRanges_kept.of_step (s := s) ⟨h.configsValid, h.snapshotsValid, h.clocksSound⟩ ht)
    (h.settled.step h.resourcesAgree ht) (h.linked.step h.settled ht)

/-- Settles O60: the invariant is the conjunction of the blocks' own, each of which every step keeps. -/
theorem soundStatesStepSafely : Obligations.SoundStatesStepSafely := by
  intro s h
  obtain ⟨t, ht, -⟩ := State.agree_kept.step (s := s) h.resourcesAgree
  exact ⟨t, ht, h.step ht⟩

/-- Settles O57: the channels and the locks of the sound state that a step reaches. -/
theorem channelsAndLocksKept : Obligations.ChannelsAndLocksKept := by
  intro s t h ht
  have sound := h.step ht
  exact ⟨fun c => ⟨sound.channelsSound c, sound.suppressedSound c⟩, sound.livesInRange, sound.locksSound⟩

end Sys2Proof.Machine
end

section
/-! What a request can do to the notice queue: records that are not RESULT records stay, and room is left for those that
SET_CHANNEL adds (R142 to R145). -/

namespace Sys2Proof.Machine

/-! ### Records that stay (R143, R145) -/

theorem withoutOldestResult_keeps {q rest : List Record} (h : withoutOldestResult q = some rest) {r : Record}
    (hr : r ∈ q) (kind : r.isResult = false) : r ∈ rest := by
  induction q generalizing rest with
  | nil => cases h
  | cons x xs ih =>
    unfold withoutOldestResult at h
    split at h
    · next result =>
      cases h
      rcases List.mem_cons.mp hr with rfl | hr
      · exact absurd (kind.symm.trans result) (by decide)
      · exact hr
    · obtain ⟨rest', found, rfl⟩ := Option.map_eq_some_iff.mp h
      rcases List.mem_cons.mp hr with rfl | hr
      · exact List.mem_cons_self
      · exact List.mem_cons_of_mem _ (ih found hr)

/-- A record that is not a RESULT record stays in the queue, whatever arrives. -/
theorem NoticeQueue.arrive_keeps {q : NoticeQueue} {r : Record} (hr : r ∈ q.records) (kind : r.isResult = false)
    (new : Record) : r ∈ (q.arrive new).1.records := by
  obtain ⟨rs, hc, e⟩ | ⟨-, -, e⟩ | ⟨-, -, -, e⟩ | ⟨rest, -, -, -, taken, e⟩ | ⟨-, -, -, -, e⟩ :=
    NoticeQueue.arrive_cases new q <;> rw [e]
  · cases new with
    | hello | state | opDone | scan => cases hc
    | result x =>
      obtain ⟨older, old, younger, records, -, rfl⟩ := coalesce_some hc
      rw [records] at hr
      rcases List.mem_append.mp hr with hr | hr
      · exact List.mem_append_left _ hr
      · rcases List.mem_cons.mp hr with rfl | hr
        · cases kind
        · exact List.mem_append_right _ (List.mem_cons_of_mem _ hr)
  · exact List.mem_append_left _ hr
  · exact hr
  · exact List.mem_append_left _ (withoutOldestResult_keeps taken hr kind)
  · exact hr

/-- A record that is not a RESULT record is placed where the queue has room. -/
theorem NoticeQueue.arrive_places {q : NoticeQueue} {r : Record} (kind : r.isResult = false)
    (room : q.records.length < Config.noticeCapacity) : r ∈ (q.arrive r).1.records := by
  have none : coalesceRecord r q.records = none := by
    cases r with
    | result => cases kind
    | hello | state | opDone | scan => rfl
  unfold NoticeQueue.arrive
  rw [none]
  dsimp only
  rw [if_pos room]
  exact List.mem_append_right _ (List.mem_singleton_self r)

theorem NoticeQueue.arrive_length (q : NoticeQueue) (r : Record) :
    (q.arrive r).1.records.length ≤ q.records.length + 1 := by
  obtain ⟨rs, hc, e⟩ | ⟨-, -, e⟩ | ⟨-, -, -, e⟩ | ⟨rest, -, -, -, taken, e⟩ | ⟨-, -, -, -, e⟩ :=
    NoticeQueue.arrive_cases r q <;> rw [e]
  · cases r with
    | hello | state | opDone | scan => cases hc
    | result x =>
      obtain ⟨older, old, younger, records, -, rfl⟩ := coalesce_some hc
      simp [records]
  · simp
  · exact Nat.le_succ _
  · have := withoutOldestResult_length taken
    simp only [List.length_append, List.length_singleton]
    omega
  · exact Nat.le_succ _

/-- The inner blocks keep a record that is not a RESULT record. -/
theorem State.record_kept {r : Record} (kind : r.isResult = false) : KeptInside fun s => r ∈ s.notices.records where
  seq _ _ h := h
  ops _ _ h := h
  choices _ _ h := h
  locks _ _ h := h
  live _ _ _ h := h
  config _ _ _ h _ := h
  record _ new h := NoticeQueue.arrive_keeps h kind new
  granted _ h := h
  entered _ _ _ h _ := h
  dropped _ _ h := h
  released _ _ _ h _ := h
  unit _ _ _ _ h _ _ _ _ := h

/-! ### The room that is left (R71, R142) -/

/-- The records that wait, and the DONE record that a SINGLE run can still add: no action of the producers raises
this. -/
def State.load (s : State) : Nat := s.notices.records.length + if s.seq.mode = .single then 1 else 0

theorem State.records_le_load (s : State) : s.notices.records.length ≤ s.load := Nat.le_add_right _ _

theorem State.load_congr {s t : State} (notices : t.notices = s.notices) (mode : t.seq.mode = s.seq.mode) :
    t.load = s.load := by
  unfold State.load
  rw [notices, mode]

theorem State.load_completeRound (s : State) : s.completeRound.load ≤ s.load := by
  unfold State.completeRound
  dsimp only
  split
  · exact (State.load_congr (s := s) rfl rfl).le
  · split <;> exact (State.load_congr (s := s) rfl rfl).le
  · split <;> exact (State.load_congr (s := s) rfl rfl).le
  · next mode =>
    have placed := s.notices.arrive_length (.scan .done s.seq.round)
    unfold State.load
    rw [if_pos mode]
    exact placed

theorem State.load_endReport (entry round : Nat) (s : State) : (s.endReport entry round).load ≤ s.load := by
  unfold State.endReport State.completeIfOver
  split
  · split
    · exact State.load_completeRound _
    · exact (State.load_congr rfl rfl).le
  · exact Nat.le_refl _

theorem State.load_endWithout (j : Job) (s : State) : (s.endWithout j).load ≤ s.load := by
  unfold State.endWithout
  split
  · exact s.load_endReport _ _
  · exact (State.load_congr rfl rfl).le

theorem State.load_withdraw (named : Job → Bool) (s : State) : (s.withdraw named).load ≤ s.load :=
  State.withdraw_keeps (fun t => t.load ≤ s.load) named (fun _ ht => ht) (fun t j ht => (t.load_endWithout j).trans ht)
    (fun t u ht => by
      unfold State.abortUnit
      split
      · exact ht
      · split
        · exact (State.load_endWithout _ _).trans ht
        · exact ht)
    (fun _ ht => ht) s (Nat.le_refl _)

theorem State.issueSample_notices (o : Operation) (s : State) : (s.issueSample o).notices = s.notices := by
  unfold State.issueSample
  split <;> rfl

theorem State.load_issueSample (o : Operation) (s : State) : (s.issueSample o).load = s.load :=
  State.load_congr (s.issueSample_notices o) (congrArg Sequencer.mode (s.issueSample_seq o))

theorem State.load_drive (s : State) : s.drive.load ≤ s.load :=
  State.driveFor_keeps (fun t => t.load ≤ s.load) (fun t ht _ => t.load_completeRound.trans ht) (fun _ _ ht _ => ht)
    (fun _ _ ht _ => ht) (fun t o ht _ => (t.load_issueSample o).le.trans ht) (fun _ ht => ht) _ _ s (Nat.le_refl _)

theorem State.load_abandon (s : State) : s.abandon.load ≤ s.load :=
  (State.load_drive _).trans ((State.load_withdraw _ _).trans (State.load_congr (s := s) rfl rfl).le)

/-- A wake adds one record at most (R76). -/
theorem State.load_wake {s : State} {n : Nat} (h : s.notices.records.length ≤ n) (reason : WakeReason) :
    (s.wake reason).load ≤ n + 1 := by
  unfold State.wake
  split
  · next watch =>
    have added : (s.addRecord (.scan (.woke reason) s.seq.round)).load ≤ n + 1 := by
      have placed := s.notices.arrive_length (.scan (.woke reason) s.seq.round)
      have mode : (s.addRecord (.scan (.woke reason) s.seq.round)).seq.mode ≠ .single := by
        show s.seq.mode ≠ .single
        rw [watch]
        decide
      unfold State.load
      rw [if_neg mode]
      exact placed.trans (Nat.succ_le_succ h)
    have abandoned := (State.load_abandon _).trans added
    unfold State.startPaced
    refine (State.load_drive _).trans ?_
    have records := (State.records_le_load _).trans abandoned
    exact records
  · unfold State.load
    split <;> omega

end Sys2Proof.Machine
end

section
/-! What SET_CHANNEL does to the operations, the jobs, the channels, the locks and the records (R12, R15 to R18, R133,
R137). -/

namespace Sys2Proof.Machine

/-! ### The operations table (R16, R133) -/

theorem firstPending_eq {xs : List OpEntry} {i : Nat} {e : OpEntry} (at_ : xs[i]? = some e)
    (pending : e.isPending = true)
    (before : ∀ m < i, ∀ x, xs[m]? = some x → x.isPending = false) : firstPending 0 xs = some i := by
  cases first : firstPending 0 xs with
  | none => exact absurd (firstPending_none.mp first e (List.mem_of_getElem? at_)) (by simp [pending])
  | some m =>
    obtain ⟨m', x, e', hx, hp, idle⟩ := firstPending_some first
    rw [Nat.zero_add] at e'
    subst e'
    rcases Nat.lt_trichotomy m i with less | rfl | more
    · exact absurd (before m less x hx) (by simp [hp])
    · rfl
    · exact absurd (idle e (List.mem_of_getElem? ((List.getElem?_take_of_lt more).trans at_))) (by simp [pending])

/-- The table after every MEASURE operation has lost its PENDING entries of a channel. -/
def OpEngine.cancelled (c : ChanId) (e : OpEngine) : OpEngine :=
  ((e.table.filter fun o => o.kind == .measure).map (Operation.cancelledFor c)).foldl (fun e o => e.advance o) e

namespace OpEngine

variable {e : OpEngine}

theorem mem_advances {os : List Operation} (present : ∀ o ∈ os, ∃ p ∈ e.table, p.opId = o.opId)
    (distinct : (os.map Operation.opId).Nodup) (x : Operation) :
    x ∈ (os.foldl (fun e o => e.advance o) e).table ↔
      (x ∈ e.table ∧ x.opId ∉ os.map Operation.opId) ∨
        ∃ o ∈ os, ∃ i, firstPending 0 o.entries = some i ∧ x = { o with current := i } := by
  induction os generalizing e with
  | nil => simp
  | cons o os ih =>
    obtain ⟨new, distinct⟩ := List.nodup_cons.mp distinct
    have here := present o List.mem_cons_self
    have others : ∀ q ∈ os, ∃ p ∈ (e.advance o).table, p.opId = q.opId := by
      intro q hq
      obtain ⟨p, hp, id⟩ := present q (List.mem_cons_of_mem _ hq)
      refine ⟨p, (mem_advance here).mpr (.inl ⟨hp, fun same => new ?_⟩), id⟩
      exact List.mem_map.mpr ⟨q, hq, id.symm.trans same⟩
    have apart : (∃ i, firstPending 0 o.entries = some i ∧ x = { o with current := i }) →
        x.opId ∉ os.map Operation.opId := by
      rintro ⟨i, -, rfl⟩
      exact new
    rw [List.foldl_cons, ih others distinct, mem_advance here, List.map_cons, List.mem_cons, not_or,
      List.exists_mem_cons_iff, or_and_right, and_assoc, and_iff_left_of_imp apart, or_assoc]

theorem advances_ids (os : List Operation) (e : OpEngine) :
    ((os.foldl (fun e o => e.advance o) e).table.map Operation.opId).Sublist (e.table.map Operation.opId) ∧
      (os.foldl (fun e o => e.advance o) e).nextId = e.nextId := by
  induction os generalizing e with
  | nil => exact ⟨List.Sublist.refl _, rfl⟩
  | cons o os ih =>
    obtain ⟨ids, next⟩ := ih (e.advance o)
    obtain ⟨ids', next'⟩ := e.advance_ids o
    exact ⟨ids.trans ids', next.trans next'⟩

/-- What stands in the table after the cancelling: the CALIBRATE operations, and the MEASURE operations that have a
PENDING entry left, at their first one. -/
theorem Fits.mem_cancelled (h : e.Fits) (c : ChanId) (x : Operation) :
    x ∈ (e.cancelled c).table ↔ (x ∈ e.table ∧ x.kind = .calibrate) ∨ ∃ o ∈ e.table, o.kind = .measure ∧
      ∃ i, firstPending 0 (o.cancelledFor c).entries = some i ∧ x = { o.cancelledFor c with current := i } := by
  obtain ⟨-, distinct, -⟩ := id h
  have ids : ((e.table.filter fun o => o.kind == .measure).map (Operation.cancelledFor c)).map Operation.opId =
      (e.table.filter fun o => o.kind == .measure).map Operation.opId := by
    rw [List.map_map]
    rfl
  have named (o : Operation) (ho : o ∈ e.table) :
      o.opId ∉ (e.table.filter fun o => o.kind == .measure).map Operation.opId ↔ o.kind = .calibrate := by
    rw [List.mem_map]
    constructor
    · intro other
      cases kind : o.kind with
      | calibrate => rfl
      | measure => exact absurd ⟨o, List.mem_filter.mpr ⟨ho, by simp [kind]⟩, rfl⟩ other
    · rintro kind ⟨p, hp, id⟩
      obtain ⟨hp, measure⟩ := List.mem_filter.mp hp
      obtain rfl := h.unique hp ho id
      simp [kind] at measure
  unfold OpEngine.cancelled
  rw [mem_advances (fun o ho => ?_) (ids ▸ List.Nodup.sublist (List.filter_sublist.map _) distinct), ids]
  · refine or_congr (and_congr_right (named x)) ⟨?_, ?_⟩
    · rintro ⟨o, ho, i, first, rfl⟩
      obtain ⟨p, hp, rfl⟩ := List.mem_map.mp ho
      obtain ⟨hp, measure⟩ := List.mem_filter.mp hp
      exact ⟨p, hp, by simpa using measure, i, first, rfl⟩
    · rintro ⟨p, hp, measure, i, first, rfl⟩
      exact ⟨_, List.mem_map_of_mem (List.mem_filter.mpr ⟨hp, by simp [measure]⟩), i, first, rfl⟩
  · obtain ⟨p, hp, rfl⟩ := List.mem_map.mp ho
    exact ⟨p, List.mem_of_mem_filter hp, rfl⟩

end OpEngine

/-! ### The OP_DONE records (R134) -/

/-- The operations that have no PENDING entry left are reported where the queue has room. -/
theorem State.Inner.cancelsIn_records {s : State} (h : s.Inner []) {c : ChanId} {os : List Operation}
    (mem : ∀ o ∈ os, o ∈ s.ops.table ∧ o.kind = .measure) (distinct : (os.map Operation.opId).Nodup)
    (spared : ∀ j ∈ s.jobs, j.channel ≠ c) :
    (os.foldl (fun t o => t.cancelIn c o) s).notices.records.length ≤ s.notices.records.length + os.length ∧
      (∀ r ∈ s.notices.records, r.isResult = false → r ∈ (os.foldl (fun t o => t.cancelIn c o) s).notices.records) ∧
      (s.notices.records.length + os.length ≤ Config.noticeCapacity →
        ∀ o ∈ os, firstPending 0 (o.cancelledFor c).entries = none →
          (o.cancelledFor c).doneRecord false ∈ (os.foldl (fun t o => t.cancelIn c o) s).notices.records) := by
  induction os generalizing s with
  | nil => exact ⟨Nat.le_refl _, fun r hr _ => hr, fun _ o ho => by cases ho⟩
  | cons o os ih =>
    obtain ⟨ho, kind⟩ := mem o List.mem_cons_self
    obtain ⟨new, distinct⟩ := List.nodup_cons.mp distinct
    obtain ⟨moved, ops, notices⟩ := h.cancelIn ho kind spared
    obtain ⟨length, stays, placed⟩ := ih moved.inner (fun p hp => by
        obtain ⟨hp', kind⟩ := mem p (List.mem_cons_of_mem _ hp)
        refine ⟨?_, kind⟩
        rw [ops]
        exact (OpEngine.mem_advance (o := o.cancelledFor c) ⟨o, ho, rfl⟩).mpr
          (.inl ⟨hp', fun e : p.opId = o.opId => new (e ▸ List.mem_map_of_mem hp)⟩))
      distinct (moved.jobs ▸ spared)
    have one : (s.cancelIn c o).notices.records.length ≤ s.notices.records.length + 1 := by
      rw [notices]
      split
      · exact s.notices.arrive_length _
      · exact Nat.le_succ _
    rw [List.foldl_cons, List.length_cons]
    refine ⟨by omega, fun r hr result => stays r ?_ result, fun room p hp none => ?_⟩
    · rw [notices]
      split
      · exact NoticeQueue.arrive_keeps hr result _
      · exact hr
    · rcases List.mem_cons.mp hp with rfl | hp
      · refine stays _ ?_ rfl
        rw [notices, if_pos none]
        exact NoticeQueue.arrive_places rfl (by omega)
      · exact placed (by omega) p hp none

/-! ### The jobs of the channel (R2, R15) -/

/-- No job is of the channel, and no entry of the channel is PENDING. -/
structure State.FreeOf (c : ChanId) (s : State) : Prop where
  jobs : ∀ j ∈ s.jobs, j.channel ≠ c
  entries : ∀ o ∈ s.ops.table, ∀ e ∈ o.entries, e.channel = c → e.isPending = false

theorem Operation.needsJob_entry {o : Operation} (h : o.needsJob = true) :
    ∃ e, o.currentEntry = some e ∧ e.isPending = true := by
  unfold Operation.needsJob at h
  cases current : o.currentEntry with
  | none => simp [current] at h
  | some e =>
    refine ⟨e, rfl, ?_⟩
    simpa [current] using (Bool.and_eq_true_iff.mp h).2

/-- The engine issues no job of a channel without PENDING entries. -/
theorem State.FreeOf.issueSample {c : ChanId} {s : State} (h : s.FreeOf c) {o : Operation}
    (next : s.nextOperation = some o) : (s.issueSample o).FreeOf c := by
  obtain ⟨-, mem, needs⟩ := State.nextOperation_some next
  obtain ⟨e, current, pending⟩ := Operation.needsJob_entry needs
  have other : e.channel ≠ c := fun same =>
    absurd (h.entries o mem e (List.mem_of_getElem? current) same) (by simp [pending])
  unfold State.issueSample
  rw [current]
  refine ⟨fun j hj => ?_, fun p hp x hx => ?_⟩
  · rcases State.mem_jobs_enterJob hj with same | ⟨k, hk, same⟩
    · rw [show j.channel = j.bare.channel from rfl, same]
      exact other
    · rw [show j.channel = j.bare.channel from rfl, ← same]
      exact h.jobs k hk
  · obtain ⟨q, hq, rfl⟩ := List.mem_map.mp hp
    split at hx
    · exact h.entries o mem x hx
    · exact h.entries q hq x hx

theorem State.FreeOf.fillFor {c : ChanId} {s : State} (h : s.FreeOf c) (fuel : Nat) : (s.fillFor fuel).FreeOf c := by
  induction fuel generalizing s with
  | zero => exact h
  | succ fuel ih =>
    unfold State.fillFor
    split
    · next chosen => exact ih (h.issueSample chosen)
    · exact h

theorem State.fillFor_notices (fuel : Nat) (s : State) : (s.fillFor fuel).notices = s.notices := by
  induction fuel generalizing s with
  | zero => rfl
  | succ fuel ih =>
    unfold State.fillFor
    split
    · rw [ih, State.issueSample_notices]
    · rfl

/-- The jobs of a channel that a drive issues carry its measuring fields as they stand (R2, R41). -/
theorem State.drive_snapshots {c : ChanId} {m : Measuring} {s : State} (config : s.channels[c].config.measuring = m)
    (jobs : ∀ j ∈ s.jobs, j.channel = c → j.snapshot = m) : ∀ j ∈ s.drive.jobs, j.channel = c → j.snapshot = m := by
  have entered (t : State) (o : Origin) (d : ChanId) (config : t.channels[c].config.measuring = m)
      (jobs : ∀ j ∈ t.jobs, j.channel = c → j.snapshot = m) :
      ∀ j ∈ (t.enterJob o d).jobs, j.channel = c → j.snapshot = m := by
    intro j hj named
    rcases State.mem_jobs_enterJob hj with same | ⟨k, hk, same⟩
    · have channel : j.channel = d := congrArg Job.channel same
      have snapshot : j.snapshot = t.channels[d].config.measuring := congrArg Job.snapshot same
      obtain rfl : d = c := channel.symm.trans named
      exact snapshot.trans config
    · have channel : k.bare.channel = j.bare.channel := congrArg Job.channel same
      have snapshot : k.bare.snapshot = j.bare.snapshot := congrArg Job.snapshot same
      exact snapshot.symm.trans (jobs k hk (channel.trans named))
  refine (State.driveFor_keeps
    (fun t => t.channels[c].config.measuring = m ∧ ∀ j ∈ t.jobs, j.channel = c → j.snapshot = m)
    (fun t ht _ => ?_) (fun _ _ ht _ => ht) (fun t e ht _ => ⟨ht.1, entered _ _ _ ht.1 ht.2⟩) (fun t o ht _ => ?_)
    (fun _ ht => ht) _ _ s ⟨config, jobs⟩).2
  · have same : t.completeRound.jobs = t.jobs := by
      unfold State.jobs
      rw [State.completeRound_queue, State.completeRound_res]
    rw [same, (State.completeRound_same t).channels]
    exact ht
  · unfold State.issueSample
    split
    · exact ht
    · exact ⟨ht.1, entered _ _ _ ht.1 ht.2⟩

end Sys2Proof.Machine
end

section
/-! What an accepted SET_CHANNEL changes, whole (R12, R15 to R18, R133, R137). -/

namespace Sys2Proof.Machine

/-! ### The operations before and after (R16, R133) -/

/-- The engine `e'` holds the operations of `e` after the cancelling of a channel's entries, up to the flags of their
jobs. -/
def OpEngine.CancelledTo (c : ChanId) (e e' : OpEngine) : Prop :=
  ∃ w : OpEngine, e.SamePlans w ∧ (w.cancelled c).SamePlans e'

theorem Operation.cancelledFor_plan {o p : Operation} (h : p.plan = o.plan) (c : ChanId) :
    (p.cancelledFor c).entries = (o.cancelledFor c).entries ∧
      ∀ i, Operation.plan { p.cancelledFor c with current := i } =
        Operation.plan { o.cancelledFor c with current := i } := by
  obtain ⟨id, kind, samples, entries, -⟩ := OpEngine.plan_eq h
  unfold Operation.cancelledFor Operation.plan
  simp only [id, kind, samples, entries, implies_true, and_self]

theorem Operation.cancelledFor_done {o p : Operation} (h : p.plan = o.plan) (c : ChanId) :
    (p.cancelledFor c).doneRecord false = (o.cancelledFor c).doneRecord false := by
  obtain ⟨id, kind, samples, entries, -⟩ := OpEngine.plan_eq h
  unfold Operation.cancelledFor Operation.doneRecord
  simp only [id, kind, samples, entries]

namespace OpEngine.CancelledTo

variable {c : ChanId} {e e' : OpEngine}

theorem ids (h : CancelledTo c e e') :
    (e'.table.map Operation.opId).Sublist (e.table.map Operation.opId) ∧ e'.nextId = e.nextId := by
  obtain ⟨w, before, after⟩ := h
  obtain ⟨ids, next⟩ := advances_ids ((w.table.filter fun o => o.kind == .measure).map (Operation.cancelledFor c)) w
  rw [after.map_eq Operation.opId fun _ => rfl, ← before.map_eq Operation.opId fun _ => rfl]
  exact ⟨ids, after.2.trans (next.trans before.2)⟩

/-- A CALIBRATE operation keeps its plan. -/
theorem calibrate (h : CancelledTo c e e') (sound : e.Sound) {o : Operation} (ho : o ∈ e.table)
    (kind : o.kind = .calibrate) : ∃ p ∈ e'.table, p.plan = o.plan := by
  obtain ⟨w, before, after⟩ := h
  obtain ⟨p, hp, plan⟩ := before.symm.exists_plan ho
  have stays : p ∈ (w.cancelled c).table := by
    refine ((before.sound sound).1.mem_cancelled c p).mpr (.inl ⟨hp, ?_⟩)
    rw [(plan_eq plan).2.1, kind]
  obtain ⟨q, hq, plan'⟩ := after.symm.exists_plan stays
  exact ⟨q, hq, plan'.trans plan⟩

/-- A MEASURE operation with a PENDING entry left stands at its first one. -/
theorem measure (h : CancelledTo c e e') (sound : e.Sound) {o : Operation} (ho : o ∈ e.table) (kind : o.kind = .measure)
    {i : Nat} (first : firstPending 0 (o.cancelledFor c).entries = some i) :
    ∃ p ∈ e'.table, p.plan = Operation.plan { o.cancelledFor c with current := i } := by
  obtain ⟨w, before, after⟩ := h
  obtain ⟨p, hp, plan⟩ := before.symm.exists_plan ho
  obtain ⟨entries, plans⟩ := Operation.cancelledFor_plan plan c
  have moved : { p.cancelledFor c with current := i } ∈ (w.cancelled c).table := by
    refine ((before.sound sound).1.mem_cancelled c _).mpr (.inr ⟨p, hp, ?_, i, entries ▸ first, rfl⟩)
    rw [(plan_eq plan).2.1, kind]
  obtain ⟨q, hq, plan'⟩ := after.symm.exists_plan moved
  exact ⟨q, hq, plan'.trans (plans i)⟩

/-- A MEASURE operation with no PENDING entry left has left the table. -/
theorem ended (h : CancelledTo c e e') (sound : e.Sound) {o : Operation} (ho : o ∈ e.table) (kind : o.kind = .measure)
    (none : firstPending 0 (o.cancelledFor c).entries = none) : ∀ q ∈ e'.table, q.opId ≠ o.opId := by
  obtain ⟨w, before, after⟩ := h
  have fits := (before.sound sound).1
  obtain ⟨p, hp, plan⟩ := before.symm.exists_plan ho
  obtain ⟨id, kind', -⟩ := plan_eq plan
  obtain ⟨entries, -⟩ := Operation.cancelledFor_plan plan c
  intro q hq same
  obtain ⟨x, hx, plan'⟩ := after.exists_plan hq
  have named : x.opId = p.opId := ((plan_eq plan').1.trans same).trans id.symm
  rcases (fits.mem_cancelled c x).mp hx with ⟨hx, calibrates⟩ | ⟨y, hy, -, i, first, rfl⟩
  · obtain rfl := fits.unique hx hp named
    rw [calibrates] at kind'
    exact absurd (kind'.trans kind) (by decide)
  · obtain rfl := fits.unique hy hp named
    rw [entries, none] at first
    cases first

/-- The entries of the channel have ended, where no CALIBRATE operation has one PENDING. -/
theorem closed (h : CancelledTo c e e') (sound : e.Sound) (idle : e.calibrations c = 0) :
    ∀ q ∈ e'.table, ∀ x ∈ q.entries, x.channel = c → x.isPending = false := by
  obtain ⟨w, before, after⟩ := h
  have fits := (before.sound sound).1
  intro q hq x hx named
  obtain ⟨p, hp, plan⟩ := after.exists_plan hq
  obtain ⟨-, -, -, entries, -⟩ := plan_eq plan
  rw [← entries] at hx
  rcases (fits.mem_cancelled c p).mp hp with ⟨hp, kind⟩ | ⟨o, -, -, i, -, rfl⟩
  · have removed := calibrations_remove fits hp c
    rw [before.calibrations, idle] at removed
    have none : p.calibrations c = 0 := by omega
    unfold Operation.calibrations at none
    rw [if_pos kind] at none
    simpa [named] using List.countP_eq_zero.mp none x hx
  · exact Bool.eq_false_iff.mpr fun pending => Operation.cancelledFor_closed hx pending named

end OpEngine.CancelledTo

/-! ### The records that SET_CHANNEL adds (R17, R133) -/

/-- The old detection settled and the configuration written keep a record that is not a RESULT record. -/
theorem State.rewritten_keeps {r : Record} (kind : r.isResult = false) {s : State} (h : r ∈ s.notices.records)
    (c : ChanId) (k : ChannelConfig) : r ∈ ((s.settleOldDetection c k).writeConfig c k).notices.records := by
  show r ∈ (s.settleOldDetection c k).notices.records
  unfold State.settleOldDetection
  dsimp only
  split
  · exact (State.record_kept kind).addStateRecord _ _ _ _ _ _ h
  · exact h

/-- The record of a lost detection (R17). -/
def lostDetection (c : ChanId) (previous next : ChanState) : Record :=
  .state { channel := c, round := none, previous := previous, next := next, reason := .config, value := none }

theorem State.rewritten_reports {c : ChanId} {k : ChannelConfig} {s : State}
    (detected : s.channels[c].live.state.detected = true) (events : s.channels[c].config.events = true)
    (room : s.notices.records.length < Config.noticeCapacity) :
    lostDetection c s.channels[c].live.state k.initialState ∈
      ((s.settleOldDetection c k).writeConfig c k).notices.records := by
  show _ ∈ (s.settleOldDetection c k).notices.records
  unfold State.settleOldDetection
  dsimp only
  rw [if_pos detected]
  unfold State.addStateRecord
  rw [if_pos events]
  exact NoticeQueue.arrive_places rfl room

/-! ### Reconfiguration (R12, R15 to R18) -/

/-- `t` is `s` after SET_CHANNEL has given channel c the configuration k. -/
structure State.Reconfigured (c : ChanId) (k : ChannelConfig) (s t : State) : Prop where
  channels : ∀ d : ChanId, t.channels[d] =
    if c = d then { config := k, live := LiveState.cleared k.initialState } else s.channels[d]
  locks : t.locks = LockAction.free.apply c s.channels[c].config.delta.group s.locks
  jobs : ∀ j ∈ t.jobs, j.channel = c → j.snapshot = k.measuring
  table : OpEngine.CancelledTo c s.ops t.ops
  done : s.load + Config.opCapacity < Config.noticeCapacity → ∀ o ∈ s.ops.table, o.kind = .measure →
    firstPending 0 (o.cancelledFor c).entries = none → (o.cancelledFor c).doneRecord false ∈ t.notices.records
  lost : s.load + Config.opCapacity < Config.noticeCapacity → s.channels[c].live.state.detected = true →
    s.channels[c].config.events = true →
    lostDetection c s.channels[c].live.state k.initialState ∈ t.notices.records

theorem State.Settled.reconfigured {s : State} (h : s.Settled) {c : ChanId} {k : ChannelConfig}
    (idle : s.channels[c].live.state ≠ .calibrating) : s.Reconfigured c k (s.reconfigure c k) := by
  have gone := h.inner.coherent.withdraw (fun _ => rfl) (named := fun j => j.channel == c) (fun _ => rfl)
    fun _ lost => by cases lost
  have same := State.withdraw_same (fun j => j.channel == c) s
  have load := State.load_withdraw (fun j => j.channel == c) s
  have withdrawn := h.inner.of_same same gone.plans gone.coherent
  unfold State.reconfigure State.fillPartition
  dsimp only
  generalize s.withdraw (fun j => j.channel == c) = w at *
  have spared : ∀ j ∈ w.jobs, j.channel ≠ c := fun j hj => by simpa using gone.unnamed j hj
  obtain ⟨moved, ops⟩ := withdrawn.cancelEntries spared
  have measures : ∀ o ∈ w.ops.table.filter fun o => o.kind == .measure, o ∈ w.ops.table ∧ o.kind = .measure :=
    fun o ho => by simpa using ho
  obtain ⟨few, distinct, -⟩ := id gone.coherent.opsSound.1
  obtain ⟨length, -, placed⟩ := withdrawn.cancelsIn_records measures
    (List.Nodup.sublist (List.filter_sublist.map _) distinct) spared
  have short : (w.ops.table.filter fun o => o.kind == .measure).length ≤ Config.opCapacity :=
    (List.length_filter_le _ _).trans few
  have table : OpEngine.CancelledTo c s.ops (w.cancelEntries c).ops := ⟨w.ops, gone.plans, ops ▸ .refl _⟩
  have none : s.ops.calibrations c = 0 := by rw [h.inner.calibrations c, if_neg idle]
  have free : (w.cancelEntries c).FreeOf c := ⟨moved.jobs ▸ spared, table.closed h.inner.coherent.opsSound none⟩
  have waiting := w.records_le_load
  have filled := State.fillFor_notices (w.cancelEntries c).ops.table.length (w.cancelEntries c)
  have fills := State.fillFor_same (w.cancelEntries c).ops.table.length (w.cancelEntries c)
  have freed := free.fillFor (w.cancelEntries c).ops.table.length
  obtain ⟨inner, plans⟩ := moved.inner.fillFor (w.cancelEntries c).ops.table.length
  generalize (w.cancelEntries c).fillFor _ = v at *
  have channels : v.channels = s.channels := fills.channels.trans (moved.channels.trans same.channels)
  have locks : v.locks = s.locks := fills.locks.trans (moved.locks.trans same.locks)
  have books := v.rewritten_books c k
  have driven := State.drive_same ((v.settleOldDetection c k).writeConfig c k)
  have room : s.load + Config.opCapacity < Config.noticeCapacity →
      v.notices.records.length < Config.noticeCapacity := fun room => by
    rw [filled]
    exact length.trans_lt (by omega)
  refine ⟨fun d => ?_, ?_, State.drive_snapshots ?_ ?_, ?_, fun few o ho kind ended => ?_,
    fun few detected events => ?_⟩
  · rw [driven.channels, State.rewritten_channel, channels]
  · rw [driven.locks, ← channels, ← locks]
    exact (v.settleOldDetection_parts c k).2
  · rw [State.rewritten_channel, if_pos rfl]
  · rw [books.jobs]
    exact fun j hj named => absurd named (freed.jobs j hj)
  · obtain ⟨x, before, after⟩ := table
    refine ⟨x, before, (after.trans plans).trans ?_⟩
    rw [← books.ops]
    exact (books.coherent inner.coherent).drive.2
  · obtain ⟨p, hp, plan⟩ := gone.plans.symm.exists_plan ho
    obtain ⟨entries, -⟩ := Operation.cancelledFor_plan plan c
    obtain ⟨-, kind', -⟩ := OpEngine.plan_eq plan
    have record := placed (by omega) p (List.mem_filter.mpr ⟨hp, by simp [kind', kind]⟩) (entries ▸ ended)
    rw [Operation.cancelledFor_done plan] at record
    refine (State.record_kept rfl).drive (State.rewritten_keeps rfl ?_ c k)
    rw [filled]
    exact record
  · rw [← channels] at detected events ⊢
    exact (State.record_kept rfl).drive (State.rewritten_reports detected events (room few))

end Sys2Proof.Machine
end

section
/-! SET_CHANNEL as the host sees it: the request, its effects and its reply (R12, R13, R15 to R18, R133, R137). -/

namespace Sys2Proof.Machine

/-! ### The state in which the request is carried out (R75, R177) -/

/-- The taking of a request leaves the channels, the locks and the plans of the operations, and adds one record at
most. -/
theorem State.Settled.taken {s : State} (h : s.Settled) (rest : List Frame) :
    s.ops.SamePlans (s.beginTaking rest).ops ∧
      ∀ n, s.notices.records.length ≤ n → (s.beginTaking rest).load ≤ n + 1 := by
  have linked := h.link s.line s.delivery { s.handler with requests := rest } s.resetHeld s.pending
  exact ⟨(linked.atRest.wake .host).2.1, fun n few => State.load_wake (s := { s with
    handler := { s.handler with requests := rest } }) few .host⟩

/-- The link of a state, with the RESET level and the command queue. -/
def State.SameLink (s t : State) : Prop :=
  t.line = s.line ∧ t.delivery = s.delivery ∧ t.handler = s.handler ∧ t.resetHeld = s.resetHeld ∧ t.pending = s.pending

/-- The inner blocks do not change the link. -/
theorem State.sameLink_kept (s : State) : KeptInside s.SameLink where
  seq _ _ h := h
  ops _ _ h := h
  choices _ _ h := h
  locks _ _ h := h
  live _ _ _ h := h
  config _ _ _ h _ := h
  record _ _ h := h
  granted _ h := h
  entered _ _ _ h _ := h
  dropped _ _ h := h
  released _ _ _ h _ := h
  unit _ _ _ _ h _ _ _ _ := h

theorem State.replied_eq (f : Frame) (r : Reply) (s : State) :
    s.replied f r =
      { s with
        handler :=
          { s.handler with
            replies := s.handler.replies ++ [replyFrame f r]
            cache := if f.tag = 0#8 then s.handler.cache
              else some { tag := f.tag, kind := f.kind, reply := replyFrame f r } } } := by
  unfold State.replied State.updateCache
  split <;> rfl

/-- A reply that follows effects on the inner blocks alone answers the request. -/
theorem State.answered {s v : State} {f : Frame} {rest : List Frame} {r : Reply}
    (h : (s.beginTaking rest).SameLink v) : s.Answered f rest r (v.replied f r) := by
  obtain ⟨-, -, line, -, handler, held, pending⟩ := s.beginTaking_fields rest
  obtain ⟨line', delivery', handler', held', pending'⟩ := h
  rw [State.replied_eq]
  refine ⟨?_, delivery', line'.trans line, held'.trans held, pending'.trans pending⟩
  rw [handler', handler]

/-! ### The statement's own words -/

theorem Operation.eq_of_plan {p x : Operation} (h : p.plan = x.plan) :
    p = { x with started := p.started, outstanding := p.outstanding } := by
  obtain ⟨id, kind, samples, entries, current⟩ := OpEngine.plan_eq h
  rw [← id, ← kind, ← samples, ← entries, ← current]

theorem Operation.stands_of_plan {e : OpEngine} {x : Operation} (h : ∃ p ∈ e.table, p.plan = x.plan) :
    ∃ p ∈ e.table, p = { x with started := p.started, outstanding := p.outstanding } := by
  obtain ⟨p, hp, plan⟩ := h
  exact ⟨p, hp, Operation.eq_of_plan plan⟩

theorem Operation.cancelledFor_entries (c : ChanId) (o : Operation) :
    (o.cancelledFor c).entries =
      o.entries.map fun e => if e.outcome = .pending ∧ e.channel = c then { e with outcome := .cancelled } else e := by
  refine List.map_congr_left fun e _ => ?_
  simp only [OpEntry.isPending, Bool.and_eq_true, beq_iff_eq]

theorem OpEntry.isPending_iff (e : OpEntry) : e.isPending = true ↔ e.outcome = .pending := by simp [OpEntry.isPending]

/-- The OP_DONE record of a MEASURE operation, entry by entry (R134). -/
theorem Operation.doneRecord_measure {o : Operation} (kind : o.kind = .measure) :
    o.doneRecord false =
      .opDone
        { opId := o.opId, kind := .measure, aborted := false
          entries := o.entries.map fun x =>
            { channel := x.channel, outcome := x.outcome, validCount := x.valid
              first := if x.valid = 0 then none else some (x.sum / x.valid)
              minMax := if x.valid = 0 then none else x.minMax } } := by
  unfold Operation.doneRecord OpEntry.done OpEntry.firstValue
  simp only [kind]

theorem ChanState.detected_iff (x : ChanState) :
    x.detected = true ↔ x ∈ [ChanState.active, .releasing, .above, .below] := by
  cases x <;> decide

/-- The lock of a channel that has lost its detection is freed, and no other (R17, R100). -/
theorem State.LocksSound.freed {s : State} (h : s.LocksSound) (c : ChanId) (g : LockId) :
    (LockAction.free.apply c s.channels[c].config.delta.group s.locks)[g] =
      if s.locks[g] = some c then none else s.locks[g] := by
  rw [LockAction.apply_get]
  dsimp only
  split
  · rfl
  · next other => rw [if_neg fun held => other ((h g c).mp held).1]

/-! ### The operation's next entry (R133) -/

/-- A PENDING entry stands at an index behind the current one. -/
def Operation.PendingAt (o : Operation) (i : Nat) : Prop :=
  o.current < i ∧ ∃ e, o.entries[i]? = some e ∧ e.outcome = .pending

/-- An operation whose current entry has ended moves on to the first PENDING entry behind it, if there is one. -/
theorem Operation.Ended.firstPending {o : Operation} (h : o.Ended) :
    (∀ i, o.PendingAt i → (∀ m < i, ¬ o.PendingAt m) → firstPending 0 o.entries = some i) ∧
      ((∀ i, ¬ o.PendingAt i) → firstPending 0 o.entries = none) := by
  have upTo {m : Nat} (within : m ≤ o.current) {x : OpEntry} (hx : o.entries[m]? = some x) : x.isPending = false :=
    h.2 x (List.mem_of_getElem? ((List.getElem?_take_of_lt (Nat.lt_succ_of_le within)).trans hx))
  have idle {m : Nat} (none : ¬ o.PendingAt m) {x : OpEntry} (hx : o.entries[m]? = some x) : x.isPending = false := by
    rcases Nat.lt_or_ge o.current m with behind | within
    · exact Bool.eq_false_iff.mpr fun pending => none ⟨behind, x, hx, x.isPending_iff.mp pending⟩
    · exact upTo within hx
  refine ⟨fun i here before => ?_, fun none => firstPending_none.mpr fun x mem => ?_⟩
  · obtain ⟨-, x, hx, pending⟩ := here
    exact firstPending_eq hx (x.isPending_iff.mpr pending) fun m less y hy => idle (before m less) hy
  · obtain ⟨m, hm⟩ := List.mem_iff_getElem?.mp mem
    exact idle (none m) hm

/-- A sound operation moves on from a cancelled current entry, and stays at another one. -/
theorem Operation.Sound.cancels {o : Operation} (h : o.Sound) (c : ChanId) :
    ((∃ e, o.entries[o.current]? = some e ∧ e.outcome = .pending ∧ e.channel = c) → (o.cancelledFor c).Ended) ∧
      (¬ (∃ e, o.entries[o.current]? = some e ∧ e.outcome = .pending ∧ e.channel = c) →
        firstPending 0 (o.cancelledFor c).entries = some o.current) := by
  obtain ⟨n, e, hn, current, pending, -⟩ := firstPending_some h.2
  rw [Nat.zero_add] at hn
  subst hn
  obtain ⟨-, other, own⟩ := h.cancelledFor c current
  refine ⟨fun ⟨x, hx, _, named⟩ => ?_, fun spared => ?_⟩
  · obtain rfl := Option.some.inj (current.symm.trans hx)
    exact own named
  · exact (other fun named => spared ⟨e, current, e.isPending_iff.mp pending, named⟩).1.2

theorem OpEngine.CancelledTo.of_plans {c : ChanId} {e e' e'' : OpEngine} (h : CancelledTo c e' e'')
    (plans : e.SamePlans e') : CancelledTo c e e'' := by
  obtain ⟨w, before, after⟩ := h
  exact ⟨w, plans.trans before, after⟩

/-! ### SET_CHANNEL -/

/-- An accepted SET_CHANNEL is carried out and answered OK (R13, R177). -/
theorem exec_setChannel_accepted {f : Frame} {rest : List Frame} {s : State} {n : ChanId} {k : ChannelConfig}
    (h : s.TakesNew .setChannel f rest) (valid : k.valid = true) (payload : f.payload = configBytes n k)
    (idle : s.channels[n].live.state ≠ .calibrating) :
    exec .setChannel s = .next (State.replied f Reply.ok ((s.beginTaking rest).reconfigure n k)) := by
  obtain ⟨channel, config⟩ := configOf_configBytes n valid
  obtain ⟨channels, -⟩ := s.beginTaking_fields rest
  have accepted : (s.beginTaking rest).refuseSetChannel f.payload = none := by
    rw [payload]
    exact refuseSetChannel_configBytes n valid _ (by rw [channels]; exact idle)
  have length : f.payload.length = 44 := by rw [payload, configBytes_length]
  have generic : RequestKind.setChannel.generic f.payload = none :=
    RequestKind.generic_none (by simp [RequestKind.lengthOk, length]) rfl
  have served : serveSetChannel f.payload (s.beginTaking rest) = ((s.beginTaking rest).reconfigure n k, Reply.ok) := by
    simp only [serveSetChannel, guarded, accepted]
    rw [payload, channel, config]
  show Host.Outcome.next (s.request .setChannel serveSetChannel) = _
  rw [State.request_new h, checked_of_generic _ _ generic, served]

/-- Settles O25: the state in which the request is carried out, its reconfiguration, and the reply. -/
theorem setChannelReconfigures : Obligations.SetChannelReconfigures := by
  intro f rest s n k sound takes valid payload idle
  obtain ⟨channels, locks, -⟩ := s.beginTaking_fields rest
  obtain ⟨plans, loaded⟩ := sound.settled.taken rest
  have opsSound := sound.coherent.opsSound
  have room (few : s.notices.records.length ≤ 16) :
      (s.beginTaking rest).load + Config.opCapacity < Config.noticeCapacity :=
    (Nat.add_le_add_right (loaded 16 few) _).trans_lt (by decide)
  have done := (sound.settled.beginTaking rest).1.reconfigured (c := n) (k := k) (by rw [channels]; exact idle)
  have same := (State.sameLink_kept (s.beginTaking rest)).reconfigure n k valid ⟨rfl, rfl, rfl, rfl, rfl⟩
  refine ⟨_, exec_setChannel_accepted takes valid payload idle, State.answered same, ?_⟩
  rw [State.replied_eq]
  dsimp only
  generalize (s.beginTaking rest).reconfigure n k = t at done
  obtain ⟨channelsAfter, locksAfter, jobs, table, ended, lost⟩ := done
  have table := table.of_plans plans
  obtain ⟨ids, next⟩ := table.ids
  have own : t.channels[n] = { config := k, live := LiveState.cleared k.initialState } := by
    rw [channelsAfter n, if_pos rfl]
  rw [channels] at lost
  have calibrations : s.ops.calibrations n = 0 := by rw [sound.calibrationsSound n, if_neg idle]
  refine ⟨by rw [own], ?_, fun m other => ?_, jobs, fun o ho e he named => ?_, ids, next, fun o ho => ?_,
    fun g => ?_, fun detected events few => ?_⟩
  · rw [own]
    unfold LiveState.cleared ChannelConfig.initialState
    cases k.detector <;> rfl
  · rw [channelsAfter m, if_neg (Ne.symm other), channels]
  · exact fun pending => absurd (table.closed opsSound calibrations o ho e he named)
      (by simp [e.isPending_iff.mpr pending])
  · have entries := o.cancelledFor_entries n
    have operation := opsSound.operation ho
    obtain ⟨moves, stays⟩ := operation.cancels n
    rw [← entries]
    refine ⟨fun kind => ?_, fun kind spared => ?_, fun kind named => ?_⟩
    · exact Operation.stands_of_plan (table.calibrate opsSound ho kind)
    · exact Operation.stands_of_plan (table.measure opsSound ho kind (stays spared))
    · obtain ⟨first, none⟩ := (moves named).firstPending
      refine ⟨fun i here before => ?_, fun left => ⟨table.ended opsSound ho kind (none left), fun few => ?_⟩⟩
      · exact Operation.stands_of_plan (table.measure opsSound ho kind (first i here before))
      · obtain ⟨p, hp, plan⟩ := plans.symm.exists_plan ho
        obtain ⟨-, kind', -⟩ := OpEngine.plan_eq plan
        obtain ⟨same, -⟩ := Operation.cancelledFor_plan plan n
        have record := ended (room few) p hp (kind'.trans kind) (by rw [same]; exact none left)
        rw [Operation.cancelledFor_done plan, Operation.doneRecord_measure (o := o.cancelledFor n) kind] at record
        exact record
  · rw [locksAfter, locks, channels]
    exact sound.locksSound.freed n g
  · rw [own]
    exact lost (room few) ((ChanState.detected_iff _).mpr detected) events

end Sys2Proof.Machine
end

section
/-! The arbiter after every step: its bounds, its books, and no waiting job that a pass would grant (R23, R42, R44 to
R50, R54). -/

namespace Sys2Proof.Machine

/-- An arbiter at rest has no offer for its oldest waiting job: a pass that granted it would shorten the queue (R47). -/
theorem State.GrantsRest.no_offer {s : State} (h : s.GrantsRest) {j : Job} {js : List Job} (hq : s.queue = j :: js) :
    s.res.offer (s.seq.mode == .watch) j = none := by
  rw [State.grantsRest_iff, hq] at h
  cases offered : s.res.offer (s.seq.mode == .watch) j with
  | none => rfl
  | some x =>
    rw [grantWalk_granted offered] at h
    exact absurd (h _ List.mem_cons_self) (by simp)

/-- Settles O54: each single change of a block keeps the job queue and the resources, and every sound state steps into
a sound one, whose arbiter rests. -/
theorem arbiterSoundKept : Obligations.ArbiterSoundKept := by
  refine ⟨fun s t jobs counts ht => ?_, fun s t agree ht => ?_, fun s t sound ht => ?_⟩
  · exact State.queueSound_kept.of_step (s := s) ⟨jobs, counts⟩ ht
  · exact State.agree_kept.of_step (s := s) agree ht
  · have rests := (sound.step ht).grantsRest
    exact ⟨rests, fun j js hq => rests.no_offer hq⟩

end Sys2Proof.Machine
end

section
/-! The counting units: the passing of time, what an edge does in each phase, and the events that end a job (R21, R26 to
R33). -/

namespace Sys2Proof.Machine

/-! ### Time on an empty command queue (R21, R66, R167) -/

/-- One REFCLK period at one unit. -/
theorem State.passUnit_eq (u : UnitId) (s : State) :
    s.passUnit u =
      { s with
        res :=
          { s.res with units := s.res.units.set u (s.res.units[u].map (Running.pass Config.refclkTime)) } } := by
  unfold State.passUnit
  cases h : s.res.units[u] with
  | none =>
    have same : s.res.units.set u none = s.res.units := by rw [← h, Fin.getElem_fin, Vector.set_getElem_self]
    rw [Option.map_none, same]
  | some r => rfl

/-- One REFCLK period at every unit and at both timers. -/
theorem State.refclk_eq (s : State) :
    s.refclk =
      { s with
        res := { s.res with units := s.res.units.map (Option.map (Running.pass Config.refclkTime)) }
        seq := { s.seq with timer := s.seq.timer.map Timer.pass }
        delivery := { s.delivery with ackTimer := s.delivery.ackTimer.map Timer.pass } } := by
  unfold State.refclk
  simp only [State.passUnit_eq]
  congr 2
  refine Vector.ext fun i hi => ?_
  have four : i = 0 ∨ i = 1 ∨ i = 2 ∨ i = 3 := by omega
  rcases four with rfl | rfl | rfl | rfl <;> simp

/-- What one REFCLK period adds to the times of a running job. -/
theorem Running.pass_refclk (r : Running) :
    r.pass Config.refclkTime =
      { r with
        tickTime := if r.phase = .count then r.tickTime + 62500 else r.tickTime
        spanTime := if r.phase = .count ∧ r.job.snapshot.mode = .gated then r.spanTime else r.spanTime + 62500 } := by
  simp only [Running.pass, Running.gateOpen_iff, Config.refclkTime]

/-- Settles O2: an idle step lets one REFCLK period pass exactly when no time-driven step is due. -/
theorem emptyQueueLetsTimePass : Obligations.EmptyQueueLetsTimePass := by
  intro s empty
  have idles : step s = .next s.idle := by
    unfold step
    rw [empty]
  refine ⟨fun due => ?_, fun due => ?_⟩
  · rw [idles, State.idle, if_pos due]
  · refine ⟨s.res.units.map (Option.map (Running.pass Config.refclkTime)), fun u => ?_, ?_⟩
    · rw [Fin.getElem_fin, Vector.getElem_map]
      exact congrArg (fun f => Option.map f s.res.units[u]) (funext Running.pass_refclk)
    · rw [idles, State.idle, if_neg (by simp [due]), State.refclk_eq]
      rfl


/-! ### Edges (R28 to R31) -/

/-- When a unit takes an edge: its job passes the test, and the expiry has not passed. -/
theorem State.takesEdge_eq {s : State} {u : UnitId} {r : Running} (busy : s.res.units[u] = some r) {dt : Nat}
    (past : (r.pass dt).isPast = false) {test : Running → Bool} (passes : test r = true) :
    s.takesEdge u dt test = some (r.pass dt) := by
  unfold State.takesEdge
  simp only [busy, passes, past, Bool.not_false, Bool.and_self, if_true]

/-- No edge is taken after the expiry. -/
theorem State.takesEdge_past {s : State} {u : UnitId} {r : Running} (busy : s.res.units[u] = some r) {dt : Nat}
    (past : (r.pass dt).isPast = true) (test : Running → Bool) : s.takesEdge u dt test = none := by
  unfold State.takesEdge
  simp only [busy, past, Bool.not_true, Bool.and_false, Bool.false_eq_true, if_false]

/-- After the expiry no edge does anything (R28, R29, R32). -/
theorem edges_past {s : State} {u : UnitId} {dt : Nat} (missed : ∀ test, s.takesEdge u dt test = none) (e : Edge) :
    execSettleEdge u dt s = .next s ∧ execGateEdge u dt s = .next s ∧ execArmingEdge u dt s = .next s ∧
      execPeriodEdge u dt s = .next s ∧ execIntervalArmingEdge u e dt s = .next s ∧
      execIntervalFinalEdge u e dt s = .next s := by
  simp only [execSettleEdge, execGateEdge, execArmingEdge, execPeriodEdge, execIntervalArmingEdge,
    execIntervalFinalEdge, missed, and_self]

/-- Over an open gate the span stands still; elsewhere it takes the time that passes (log 28). -/
theorem Running.pass_spanTime (dt : Nat) (r : Running) :
    (r.pass dt).spanTime =
      if r.phase = .count ∧ r.job.snapshot.mode = .gated then r.spanTime else r.spanTime + dt := by
  simp only [Running.pass, Running.gateOpen_iff]

theorem Running.gateOpen_eq_false {r : Running} (h : ¬ (r.phase = .count ∧ r.job.snapshot.mode = .gated)) :
    r.gateOpen = false := by
  rw [← Bool.not_eq_true, r.gateOpen_iff]
  exact h

/-- Settles O41: the counters after the passing of time, the edges that come too late, and each edge in its phase. -/
theorem edgesCount : Obligations.EdgesCount := by
  refine ⟨?_, ?_, ?_⟩
  · intro r dt w m tick gate
    refine ⟨rfl, rfl, rfl, rfl, rfl, fun h => ?_, fun h => ?_, rfl, rfl, fun h => ?_, fun h => ?_⟩
    · exact (r.pass_spanTime dt).trans (if_pos h)
    · exact (r.pass_spanTime dt).trans (if_neg h)
    · exact Running.isPast_gate (r := w) (r.gateOpen_iff.mpr h)
    · exact Running.isPast_span (r := w) (Running.gateOpen_eq_false h)
  · intro s u dt r busy past c hc
    have missed := State.takesEdge_past busy past
    obtain ⟨settle, gate, arming, period, armingRise, finalRise⟩ := edges_past missed .rising
    obtain ⟨-, -, -, -, armingFall, finalFall⟩ := edges_past missed .falling
    simp only [List.mem_cons, List.not_mem_nil, or_false] at hc
    rcases hc with rfl | rfl | rfl | rfl | rfl | rfl | rfl | rfl <;> assumption
  · intro s u dt r busy w m put past
    have takes {test : Running → Bool} (h : test r = true) := State.takesEdge_eq busy past h
    refine ⟨fun phase few => ?_, fun phase enough => ?_, fun phase mode => ?_, fun phase mode => ?_,
      fun phase mode few => ?_, fun e phase mode => ?_, fun e phase mode other => ?_⟩
    · show execSettleEdge u dt s = _
      unfold execSettleEdge
      rw [takes (by simp [phase])]
      exact congrArg (fun x => Host.Outcome.next (put x)) (if_neg (Nat.not_le.mpr few))
    · show execSettleEdge u dt s = _
      unfold execSettleEdge
      rw [takes (by simp [phase])]
      exact congrArg (fun x => Host.Outcome.next (put x)) (if_pos enough)
    · show execGateEdge u dt s = _
      unfold execGateEdge
      rw [takes (r.gateOpen_iff.mpr ⟨phase, mode⟩)]
      rfl
    · show execArmingEdge u dt s = _
      unfold execArmingEdge
      rw [takes (Running.isIn_iff.mpr ⟨phase, mode⟩)]
      rfl
    · show execPeriodEdge u dt s = _
      unfold execPeriodEdge
      rw [takes (Running.isIn_iff.mpr ⟨phase, mode⟩)]
      exact if_neg (Nat.not_le.mpr few)
    · show execIntervalArmingEdge u e dt s = _
      unfold execIntervalArmingEdge
      rw [takes (Running.isIn_iff.mpr ⟨phase, mode⟩)]
      rfl
    · have other : e ≠ m.edgePair.final := other
      show execIntervalFinalEdge u e dt s = _
      unfold execIntervalFinalEdge
      rw [takes (Running.isIn_iff.mpr ⟨phase, mode⟩)]
      exact if_neg other

end Sys2Proof.Machine
end

section
/-! What the producers and the arbiter leave alone from any state: they lose no job, take no unit from a running job,
keep the ids of the operations, and issue the round in progress entry by entry (R42, R43, R46 to R49, R69, R71, R128).
-/

namespace Sys2Proof.Machine

/-! ### Ids, jobs and units -/

theorem OpEngine.update_ids (o : Operation) (e : OpEngine) :
    (e.update o).table.map Operation.opId = e.table.map Operation.opId := by
  simp only [OpEngine.update, List.map_map]
  refine List.map_congr_left fun p _ => ?_
  by_cases same : p.opId = o.opId <;> simp [same]

theorem OpEngine.jobEnded_ids (id : Nat) (e : OpEngine) :
    (e.jobEnded id).table.map Operation.opId = e.table.map Operation.opId ∧ (e.jobEnded id).nextId = e.nextId := by
  unfold OpEngine.jobEnded
  split
  · exact ⟨e.update_ids _, rfl⟩
  · exact ⟨rfl, rfl⟩

/-- A job with the fields of another, but for its pass count. -/
theorem Job.eq_of_bare {j k : Job} (h : k.bare = j.bare) : k = { j with passCount := k.passCount } := by
  obtain ⟨origin, channel, snapshot⟩ := Job.bare_eq h
  cases k
  cases origin
  cases channel
  cases snapshot
  rfl

/-- `t` is `s` after actions of the producers and the arbiter: every job still waits or runs, busy units run on, FREE
ones are FREE or have been given a job, and the ids of the operations and all beyond the jobs are the same. -/
structure State.Worked (s t : State) : Prop where
  same : s.SameBeyondJobs t
  ids : t.ops.table.map Operation.opId = s.ops.table.map Operation.opId
  nextId : t.ops.nextId = s.ops.nextId
  jobs : ∀ j ∈ s.jobs, ∃ k ∈ t.jobs, k.bare = j.bare
  busy : ∀ v : UnitId, s.res.units[v] ≠ none → t.res.units[v] = s.res.units[v]
  free : ∀ v : UnitId, s.res.units[v] = none →
    t.res.units[v] = none ∨ ∃ j cell, t.res.units[v] = some (Running.start j cell)

namespace State.Worked

variable {s t u : State}

/-- Actions that change no job and no unit. -/
theorem of_same (same : s.SameBeyondJobs t)
    (ids : t.ops.table.map Operation.opId = s.ops.table.map Operation.opId) (nextId : t.ops.nextId = s.ops.nextId)
    (queue : t.queue = s.queue) (res : t.res = s.res) : s.Worked t where
  same := same
  ids := ids
  nextId := nextId
  jobs j hj := ⟨j, by unfold State.jobs; rwa [queue, res], rfl⟩
  busy v _ := by rw [res]
  free v hv := .inl (by rw [res]; exact hv)

theorem refl (s : State) : s.Worked s := of_same (.refl s) rfl rfl rfl rfl

theorem trans (h : s.Worked t) (k : t.Worked u) : s.Worked u where
  same := h.same.trans k.same
  ids := k.ids.trans h.ids
  nextId := k.nextId.trans h.nextId
  jobs j hj := by
    obtain ⟨x, hx, e⟩ := h.jobs j hj
    obtain ⟨y, hy, e'⟩ := k.jobs x hx
    exact ⟨y, hy, e'.trans e⟩
  busy v hv := (k.busy v (by rwa [h.busy v hv])).trans (h.busy v hv)
  free v hv := by
    rcases h.free v hv with none | ⟨j, cell, given⟩
    · exact k.free v none
    · exact .inr ⟨j, cell, (k.busy v (by simp [given])).trans given⟩

theorem grantPass (s : State) : s.Worked s.grantPass where
  same := s.grantPass_same
  ids := rfl
  nextId := rfl
  jobs _ hj := List.mem_map.mp (s.grantPass_jobs.mem_iff.mpr (List.mem_map_of_mem hj))
  busy v hv := (grantWalk_unit _ s.queue s.res v).resolve_right fun given => hv given.1
  free v hv := (grantWalk_unit _ s.queue s.res v).imp (fun same => same.trans hv)
    fun ⟨_, j, _, given⟩ => ⟨j, given⟩

theorem enterJob (o : Origin) (c : ChanId) (s : State) : s.Worked (s.enterJob o c) := by
  have entered : s.Worked { s with queue := s.queue ++ [s.newJob o c] } :=
    { same := ⟨rfl, rfl, rfl, rfl, rfl, rfl, rfl⟩
      ids := rfl
      nextId := rfl
      jobs := fun j hj => ⟨j, ((List.sublist_append_left _ _).append_right _).subset hj, rfl⟩
      busy := fun _ _ => rfl
      free := fun _ hv => .inl hv }
  exact entered.trans (grantPass _)

theorem completeRound (s : State) : s.Worked s.completeRound :=
  of_same s.completeRound_same (by rw [s.completeRound_ops]) (by rw [s.completeRound_ops]) s.completeRound_queue
    s.completeRound_res

theorem endReport (entry round : Nat) (s : State) : s.Worked (s.endReport entry round) := by
  obtain ⟨ops, res, queue, -⟩ := s.endReport_parts entry round
  exact of_same (s.endReport_same entry round) (by rw [ops]) (by rw [ops]) queue res

theorem issueEntry (e : ScanEntry) (s : State) : s.Worked (s.issueEntry e) :=
  trans (t := { s with seq := { s.seq with
    outstanding := s.seq.outstanding ++ [s.seq.issuePos], issuePos := s.seq.issuePos + 1 } })
    (of_same ⟨rfl, rfl, rfl, rfl, rfl, rfl, rfl⟩ rfl rfl rfl rfl) (enterJob _ _ _)

theorem issueSample (o : Operation) (s : State) : s.Worked (s.issueSample o) := by
  unfold State.issueSample
  split
  · exact refl s
  · refine trans ?_ (enterJob _ _ _)
    exact of_same ⟨rfl, rfl, rfl, rfl, rfl, rfl, rfl⟩ (s.ops.update_ids _) rfl rfl rfl

theorem drive (s : State) : s.Worked s.drive :=
  State.driveFor_keeps s.Worked (fun t h _ => h.trans (completeRound t))
    (fun t _ h _ => h.trans (of_same t.passEntry_same rfl rfl rfl rfl)) (fun t e h _ => h.trans (issueEntry e t))
    (fun t o h _ => h.trans (issueSample o t)) (fun t h => h.trans (of_same t.countChoice_same rfl rfl rfl rfl))
    _ _ s (refl s)

end State.Worked

/-- In a table with distinct ids the issue of a job changes the flags of one operation alone (R129). -/
theorem State.samePlans_issueSample {s : State} (distinct : (s.ops.table.map Operation.opId).Nodup) {o : Operation}
    (ho : o ∈ s.ops.table) : s.ops.SamePlans (s.issueSample o).ops := by
  unfold State.issueSample
  split
  · exact .refl _
  · refine ⟨?_, rfl⟩
    show (List.map _ _).map _ = _
    rw [List.map_map]
    refine List.map_congr_left fun p hp => ?_
    by_cases same : p.opId = o.opId
    · rw [List.inj_on_of_nodup_map distinct hp ho same]
      simp [Operation.plan]
    · simp [same]

theorem State.samePlans_drive {s : State} (distinct : (s.ops.table.map Operation.opId).Nodup) :
    s.ops.SamePlans s.drive.ops :=
  State.driveFor_keeps (fun t => s.ops.SamePlans t.ops) (fun t h _ => t.completeRound_ops ▸ h) (fun _ _ h _ => h)
    (fun _ _ h _ => h)
    (fun _ _ h next => h.trans (State.samePlans_issueSample (by rwa [h.map_eq _ fun _ => rfl])
      (State.nextOperation_some next).2.1))
    (fun _ h => h) _ _ s (.refl _)

/-! ### The issue of a round (R69) -/

/-- Whether the entry at an index is issued when the sequencer arrives at it: eligible in the round, and its channel ON
and not CALIBRATING (R69). -/
def State.Issuable (s : State) (i : Nat) : Prop :=
  i ∈ s.seq.eligible ∧ ∃ e, s.seq.list[i]? = some e ∧ s.scannable e.channel = true

/-- `t` is `s` after entries of its round have been issued and passed over: those between the two issue positions that
could be issued are outstanding, and nothing else of the sequencer and of the records has changed. -/
structure State.Issued (s t : State) : Prop where
  channels : t.channels = s.channels
  notices : t.notices = s.notices
  seq : t.seq = { s.seq with outstanding := t.seq.outstanding, issuePos := t.seq.issuePos }
  forward : s.seq.issuePos ≤ t.seq.issuePos
  outstanding : ∀ i, i ∈ t.seq.outstanding ↔
    i ∈ s.seq.outstanding ∨ s.seq.issuePos ≤ i ∧ i < t.seq.issuePos ∧ s.Issuable i

/-- An entry that is passed over could not be issued. -/
theorem State.not_issuable_of_skipDue {s : State} {arrived : Bool} (h : s.skipDue arrived = true) :
    ¬ s.Issuable s.seq.issuePos := by
  rintro ⟨eligible, e, entry, ready⟩
  obtain ⟨d, at_⟩ := State.skipDue_at h
  obtain ⟨-, here, -⟩ := Sequencer.atPosition_some at_
  rw [entry] at here
  cases here
  unfold State.skipDue at h
  rw [at_] at h
  simp [Sequencer.dropped, eligible, ready] at h

/-- The entry that the sequencer can issue next is eligible, and its channel may be scanned. -/
theorem State.issuable_of_nextScan {s : State} {e : ScanEntry} (h : s.nextScan = some e) :
    s.Issuable s.seq.issuePos := by
  have at_ := State.nextScan_at h
  obtain ⟨-, here, -⟩ := Sequencer.atPosition_some at_
  unfold State.nextScan at h
  rw [at_] at h
  dsimp only at h
  split at h
  · next free =>
    simp only [Sequencer.dropped, Bool.not_not, Bool.and_eq_true, List.contains_iff_mem] at free
    obtain ⟨⟨eligible, scans⟩, -⟩ := free
    exact ⟨eligible, e, here, scans⟩
  · cases h

namespace State.Issued

variable {s t u : State}

theorem refl (s : State) : s.Issued s :=
  ⟨rfl, rfl, rfl, Nat.le_refl _, fun _ =>
    ⟨.inl, fun h => h.resolve_right fun ⟨low, high, _⟩ => Nat.lt_irrefl _ (low.trans_lt high)⟩⟩

/-- What leaves the sequencer, the channels and the records as they are. -/
theorem of_same (h : s.Issued t) (channels : u.channels = t.channels) (notices : u.notices = t.notices)
    (seq : u.seq = t.seq) : s.Issued u where
  channels := channels.trans h.channels
  notices := notices.trans h.notices
  seq := by
    rw [seq]
    exact h.seq
  forward := by
    rw [seq]
    exact h.forward
  outstanding := by
    rw [seq]
    exact h.outstanding

theorem inRound (h : s.Issued t) : t.seq.inRound = s.seq.inRound := by rw [h.seq]

theorem list (h : s.Issued t) : t.seq.list = s.seq.list := by rw [h.seq]

theorem eligible (h : s.Issued t) : t.seq.eligible = s.seq.eligible := by rw [h.seq]

theorem issuable (h : s.Issued t) (i : Nat) : t.Issuable i ↔ s.Issuable i := by
  unfold State.Issuable State.scannable
  rw [h.eligible, h.list, h.channels]

/-- The issue position moves past one entry, which is outstanding from then on exactly if it could be issued. -/
theorem next (h : s.Issued t) {issued : List Nat} (channels : u.channels = t.channels) (notices : u.notices = t.notices)
    (seq : u.seq = { t.seq with outstanding := issued, issuePos := t.seq.issuePos + 1 })
    (mem : ∀ i, i ∈ issued ↔ i ∈ t.seq.outstanding ∨ i = t.seq.issuePos ∧ t.Issuable i) : s.Issued u where
  channels := channels.trans h.channels
  notices := notices.trans h.notices
  seq := by
    rw [seq]
    exact congrArg (fun q : Sequencer => { q with outstanding := issued, issuePos := t.seq.issuePos + 1 }) h.seq
  forward := by
    rw [seq]
    exact Nat.le_succ_of_le h.forward
  outstanding i := by
    have forward := h.forward
    rw [seq]
    simp only [mem, h.outstanding, h.issuable, Nat.lt_succ_iff_lt_or_eq]
    constructor
    · rintro ((old | ⟨low, high, can⟩) | ⟨rfl, can⟩)
      · exact .inl old
      · exact .inr ⟨low, .inl high, can⟩
      · exact .inr ⟨forward, .inr rfl, can⟩
    · rintro (old | ⟨low, high | here, can⟩)
      · exact .inl (.inl old)
      · exact .inl (.inr ⟨low, high, can⟩)
      · exact .inr ⟨here, can⟩

theorem passEntry (h : s.Issued t) {arrived : Bool} (due : t.skipDue arrived = true) : s.Issued t.passEntry :=
  h.next (u := t.passEntry) (issued := t.seq.outstanding) rfl rfl rfl fun _ =>
    ⟨.inl, fun x => x.resolve_right fun ⟨here, can⟩ => State.not_issuable_of_skipDue due (here ▸ can)⟩

theorem issueEntry (h : s.Issued t) {e : ScanEntry} (next : t.nextScan = some e) : s.Issued (t.issueEntry e) := by
  refine h.next (u := t.issueEntry e) (issued := t.seq.outstanding ++ [t.seq.issuePos]) rfl rfl rfl fun i => ?_
  rw [List.mem_append, List.mem_singleton]
  exact or_congr_right ⟨fun here => ⟨here, here ▸ State.issuable_of_nextScan next⟩, And.left⟩

theorem issueSample (h : s.Issued t) (o : Operation) : s.Issued (t.issueSample o) := by
  refine h.of_same (t.issueSample_same o).channels ?_ (t.issueSample_seq o)
  unfold State.issueSample
  split <;> rfl

/-- A drive issues the round in progress and, with an entry outstanding, does not complete it. -/
theorem drive (h : s.Issued t) (going : s.seq.inRound = true → s.seq.outstanding ≠ []) : s.Issued t.drive := by
  refine State.driveFor_keeps s.Issued (fun v hv ended => ?_) (fun _ _ hv due => hv.passEntry due)
    (fun _ _ hv next => hv.issueEntry next) (fun _ o hv _ => hv.issueSample o)
    (fun _ hv => hv.of_same rfl rfl rfl) _ _ t h
  obtain ⟨inRound, -, none⟩ := (Sequencer.roundOver_iff _).mp ended
  have inRound : s.seq.inRound = true := hv.inRound.symm.trans inRound
  obtain ⟨i, hi⟩ := List.exists_mem_of_ne_nil _ (going inRound)
  have left := (hv.outstanding i).mpr (.inl hi)
  rw [none] at left
  cases left

end State.Issued

/-! ### The completion of a round (R71, R72) -/

/-- The sequencer after its round has ended: BETWEEN rounds, with no entry outstanding. -/
def Sequencer.ended (q : Sequencer) : Sequencer :=
  { q with inRound := false, issuePos := 0, outstanding := [], eligible := [] }

section
variable {s : State}

theorem Sequencer.ended_of_roundOver {q : Sequencer} (done : q.roundOver = true) :
    { q with inRound := false, issuePos := 0, eligible := [] } = q.ended := by
  obtain ⟨-, -, none⟩ := (Sequencer.roundOver_iff _).mp done
  unfold Sequencer.ended
  rw [none]

theorem State.completeRound_single (done : s.seq.roundOver = true) (mode : s.seq.mode = .single) :
    s.completeRound =
      { s with
        seq := { s.seq.ended with mode := .stopped }
        notices := (s.notices.arrive (.scan .done s.seq.round)).1 } := by
  unfold State.completeRound
  rw [mode, ← Sequencer.ended_of_roundOver done]
  rfl

theorem State.completeRound_waits (done : s.seq.roundOver = true) (mode : s.seq.mode = .running ∨ s.seq.mode = .watch)
    (held : s.seq.heldStart = false) : s.completeRound = { s with seq := s.seq.ended } := by
  unfold State.completeRound
  rw [← Sequencer.ended_of_roundOver done]
  rcases mode with mode | mode <;> simp only [mode, held, Bool.false_eq_true, if_false]

theorem State.completeRound_begins (done : s.seq.roundOver = true)
    (mode : s.seq.mode = .running ∨ s.seq.mode = .watch) (held : s.seq.heldStart = true) :
    s.completeRound = State.roundBegin { s with seq := { s.seq.ended with heldStart := false } } := by
  unfold State.completeRound
  rw [← Sequencer.ended_of_roundOver done]
  rcases mode with mode | mode <;> simp only [mode, held, if_true]

end

/-! ### A round that has just begun (R68, R69, R71) -/

/-- A round of a paced run has just begun, and nothing of it is issued yet. -/
structure Sequencer.Fresh (q : Sequencer) : Prop where
  inRound : q.inRound = true
  issuePos : q.issuePos = 0
  outstanding : q.outstanding = []
  heldStart : q.heldStart = false
  mode : q.mode = .running ∨ q.mode = .watch

/-- `t` is `b` after its round has been issued, in progress still or, where no entry could be issued, over. -/
def State.Ran (b t : State) : Prop :=
  b.Issued t ∨
    t.channels = b.channels ∧ t.notices = b.notices ∧ t.seq = b.seq.ended ∧ ∀ i, ¬ b.Issuable i

namespace State.Ran

variable {b t u : State}

theorem of_same (h : b.Ran t) (channels : u.channels = t.channels) (notices : u.notices = t.notices)
    (seq : u.seq = t.seq) : b.Ran u := by
  rcases h with h | ⟨channels', notices', seq', none⟩
  · exact .inl (h.of_same channels notices seq)
  · exact .inr ⟨channels.trans channels', notices.trans notices', seq.trans seq', none⟩

theorem notices (h : b.Ran t) : t.notices = b.notices := by
  rcases h with h | ⟨-, h, -⟩
  · exact h.notices
  · exact h

/-- The fields of the sequencer that the issue of a round does not reach. -/
theorem seq_fields (h : b.Ran t) :
    t.seq.mode = b.seq.mode ∧ t.seq.round = b.seq.round ∧ t.seq.timer = b.seq.timer ∧
      t.seq.overrunReported = b.seq.overrunReported ∧ t.seq.heldStart = b.seq.heldStart ∧ t.seq.list = b.seq.list ∧
      t.seq.runPeriod = b.seq.runPeriod ∧ t.seq.watchPeriod = b.seq.watchPeriod ∧ t.seq.overruns = b.seq.overruns := by
  rcases h with h | ⟨-, -, seq, -⟩
  · rw [h.seq]
    exact ⟨rfl, rfl, rfl, rfl, rfl, rfl, rfl, rfl, rfl⟩
  · rw [seq]
    exact ⟨rfl, rfl, rfl, rfl, rfl, rfl, rfl, rfl, rfl⟩

/-- A round without an entry that could be issued completes; one with such an entry stays in progress. -/
theorem completeRound (h : b.Ran t) (fresh : b.seq.Fresh) (done : t.seq.roundOver = true) : b.Ran t.completeRound := by
  obtain ⟨inRound, issued, none⟩ := (Sequencer.roundOver_iff _).mp done
  rcases h with h | ⟨-, -, seq, -⟩
  · have ended : t.seq.ended = b.seq.ended := by
      rw [h.seq]
      rfl
    obtain ⟨mode, -, -, -, held, -⟩ := seq_fields (.inl h)
    rw [State.completeRound_waits done (mode ▸ fresh.mode) (held.trans fresh.heldStart)]
    refine .inr ⟨h.channels, h.notices, ended, fun i can => ?_⟩
    have ⟨_, e, entry, _⟩ := can
    have inside : i < t.seq.issuePos := by
      rw [← h.list] at entry
      exact (List.getElem?_eq_some_iff.mp entry).1.trans_le issued
    have left := (h.outstanding i).mpr (.inr ⟨fresh.issuePos ▸ Nat.zero_le i, inside, can⟩)
    rw [none] at left
    cases left
  · rw [seq] at inRound
    cases inRound

theorem drive (h : b.Ran t) (fresh : b.seq.Fresh) : b.Ran t.drive := by
  have going {v : State} {e : ScanEntry} (hv : b.Ran v) (at_ : v.seq.atPosition = some e) : b.Issued v := by
    refine hv.resolve_right fun ⟨_, _, seq, _⟩ => ?_
    have inRound := (Sequencer.atPosition_some at_).1
    rw [seq] at inRound
    cases inRound
  refine State.driveFor_keeps b.Ran (fun v hv done => hv.completeRound fresh done) (fun v _ hv due => ?_)
    (fun v e hv next => ?_) (fun v o hv _ => ?_) (fun _ hv => hv.of_same rfl rfl rfl) _ _ t h
  · obtain ⟨e, at_⟩ := State.skipDue_at due
    exact .inl ((going hv at_).passEntry due)
  · exact .inl ((going hv (State.nextScan_at next)).issueEntry next)
  · have same := (State.Issued.refl v).issueSample o
    exact hv.of_same same.channels same.notices (v.issueSample_seq o)

/-- Once the producers have nothing to do, the round that began is the one that the rules describe. -/
theorem began (h : b.Ran t) (fresh : b.seq.Fresh) (rests : t.ProducersRest) {s : State}
    (list : b.seq.list = s.seq.list) {mode : SeqMode}
    (eligible : ∀ i, i ∈ b.seq.eligible ↔ s.DueAndEligible mode b.seq.round i)
    (issuable : ∀ i, b.Issuable i ↔ s.DueAndEligible mode b.seq.round i) : s.BeganRound mode t := by
  obtain ⟨done, stays, scan, -⟩ := t.producersRest_iff.mp rests
  obtain ⟨-, round, -⟩ := h.seq_fields
  unfold State.BeganRound
  rw [round]
  rcases h with h | ⟨-, -, seq, none⟩
  · have inRound : t.seq.inRound = true := h.inRound.trans fresh.inRound
    have mem (i : Nat) : i ∈ t.seq.outstanding ↔ s.DueAndEligible mode b.seq.round i ∧ i < t.seq.issuePos := by
      rw [h.outstanding, fresh.outstanding, fresh.issuePos, issuable]
      simp [and_comm]
    have paused (inside : t.seq.issuePos < t.seq.list.length) :
        t.Issuable t.seq.issuePos ∧ t.scanSlotFree = false := by
      have at_ : t.seq.atPosition = some t.seq.list[t.seq.issuePos] := by
        simp [Sequencer.atPosition, inRound, inside]
      unfold State.skipDue at stays
      unfold State.nextScan at scan
      rw [at_] at stays scan
      simp only [Bool.false_or, Bool.or_eq_false_iff, Bool.and_eq_false_iff, Bool.not_eq_eq_eq_not, Bool.not_false,
        ite_eq_right_iff, reduceCtorEq, imp_false] at stays scan
      obtain ⟨kept, blocked⟩ := stays
      have chosen : t.seq.issuePos ∈ t.seq.eligible := by simpa [Sequencer.dropped] using kept
      have due := (issuable _).mpr ((eligible _).mp (h.eligible ▸ chosen))
      have can := (h.issuable _).mpr due
      obtain ⟨-, e, entry, ready⟩ := can
      have here : t.seq.list[t.seq.issuePos] = e := (List.getElem?_eq_some_iff.mp entry).2
      refine ⟨(h.issuable _).mpr due, ?_⟩
      simpa [kept, here, ready] using scan
    refine ⟨⟨fun _ => ?_, fun _ => inRound⟩, fun _ => ⟨fun i => h.eligible ▸ eligible i, mem, ?_⟩, fun between => ?_⟩
    · by_cases inside : t.seq.issuePos < t.seq.list.length
      · exact ⟨_, (issuable _).mp ((h.issuable _).mp (paused inside).1)⟩
      · have left : t.seq.outstanding ≠ [] := fun none =>
          absurd ((Sequencer.roundOver_iff _).mpr ⟨inRound, Nat.le_of_not_lt inside, none⟩) (by simp [done])
        obtain ⟨i, hi⟩ := List.exists_mem_of_ne_nil _ left
        exact ⟨i, ((mem i).mp hi).1⟩
    · by_cases inside : t.seq.issuePos < t.seq.list.length
      · exact .inr (by simpa [State.scanSlotFree] using (paused inside).2)
      · rw [← list, ← h.list]
        exact .inl (Nat.le_of_not_lt inside)
    · rw [inRound] at between
      cases between
  · rw [seq]
    refine ⟨⟨fun going => ?_, fun ⟨i, due⟩ => ?_⟩, fun going => ?_, fun _ => ⟨rfl, rfl⟩⟩
    · cases going
    · exact absurd ((issuable i).mpr due) (none i)
    · cases going

end State.Ran

/-- The entries of a round that begins that can be issued are those due and eligible in it. -/
theorem State.roundBegin_issuable (s : State) (i : Nat) :
    s.roundBegin.Issuable i ↔ s.DueAndEligible s.seq.mode (nextRound s.seq.round) i := by
  unfold State.Issuable
  rw [s.mem_roundBegin_eligible]
  refine and_iff_left_of_imp fun ⟨e, entry, _, _, on, free⟩ => ⟨e, entry, ?_⟩
  simpa [State.scannable] using And.intro on free

/-! ### After the report of a result (R35, R36) -/

/-- What follows once the origin of a job has taken its result: the producers act, a grant pass runs for the freed unit,
and the producers act on its slots. -/
def State.regranted (s : State) : State := s.drive.grantPass.drive

section
variable {s t : State}

theorem State.regranted_rests (s : State) : s.regranted.ProducersRest := State.drive_rests _

theorem State.Worked.regranted (s : State) : s.Worked s.regranted :=
  ((State.Worked.drive s).trans (State.Worked.grantPass _)).trans (State.Worked.drive _)

theorem State.Issued.regranted (h : s.Issued t) (going : s.seq.inRound = true → s.seq.outstanding ≠ []) :
    s.Issued t.regranted :=
  State.Issued.drive ((h.drive going).of_same (u := t.drive.grantPass) rfl rfl rfl) going

theorem State.Ran.regranted (h : s.Ran t) (fresh : s.seq.Fresh) : s.Ran t.regranted :=
  State.Ran.drive ((h.drive fresh).of_same (u := t.drive.grantPass) rfl rfl rfl) fresh

theorem State.regranted_between (between : s.seq.inRound = false) : s.regranted.seq = s.seq := by
  have driven := State.drive_between between
  exact (State.drive_between (s := s.drive.grantPass) ((congrArg Sequencer.inRound driven).trans between)).trans driven

theorem State.samePlans_regranted (distinct : (s.ops.table.map Operation.opId).Nodup) :
    s.ops.SamePlans s.regranted.ops := by
  have driven := State.samePlans_drive distinct
  refine driven.trans (State.samePlans_drive (s := s.drive.grantPass) ?_)
  rwa [show s.drive.grantPass.ops.table = s.drive.ops.table from rfl, driven.map_eq _ fun _ => rfl]

/-- A drive does nothing where the producers have nothing to do. -/
theorem State.drive_of_rests (h : s.ProducersRest) : s.drive = s := by
  obtain ⟨n, fuel⟩ : ∃ n, s.driveFuel = n + 1 := Nat.exists_eq_succ_of_ne_zero (by unfold State.driveFuel; omega)
  unfold State.drive
  rw [fuel, State.driveFor, h]

/-- With an empty queue a grant pass does nothing, and where the producers rest too nothing follows a result. -/
theorem State.regranted_of_rests (h : s.ProducersRest) (empty : s.queue = []) : s.regranted = s := by
  unfold State.regranted
  rw [State.drive_of_rests h, State.grantsRest_of_empty empty, State.drive_of_rests h]

end

end Sys2Proof.Machine
end

section
/-! The events that end a job, the bound of its value, and the completion of an operation's job (R21, R28 to R33, R35,
R130). -/

namespace Sys2Proof.Machine

/-! ### The bound of a value (R30 to R32) -/

/-- A count that is no gate began no earlier than its span, so up to the timeout its ticks stay at most the timeout, and
before it below (R30, R31, R32). -/
theorem Running.ticks_bounded {r : Running} (sound : r.inTime = true) (phase : r.phase = .count)
    (shut : r.gateOpen = false) (dt : Nat) :
    (r.spanTime + dt ≤ r.job.snapshot.timeout * r.job.snapshot.tickPeriod →
        (r.tickTime + dt) / r.job.snapshot.tickPeriod ≤ r.job.snapshot.timeout) ∧
      (r.spanTime + dt < r.job.snapshot.timeout * r.job.snapshot.tickPeriod →
        (r.tickTime + dt) / r.job.snapshot.tickPeriod < r.job.snapshot.timeout) := by
  have inside : r.tickTime + dt ≤ r.spanTime + dt :=
    Nat.add_le_add_right (((Running.inTime_span shut).mp sound).2 phase) dt
  constructor <;> intro h
  · exact Nat.div_le_of_le_mul (Nat.mul_comm _ _ ▸ inside.trans h)
  · exact (Nat.div_lt_iff_lt_mul (Measuring.tickPeriod_pos _)).mpr (inside.trans_lt h)

/-- The timeout of a valid snapshot is at most 65535 ticks (R2). -/
theorem Measuring.timeout_le {m : Measuring} (h : m.valid = true) : m.timeout ≤ 65535 := by
  simp only [Measuring.valid, inRange, Bool.and_eq_true, decide_eq_true_eq] at h
  omega

/-- The ticks that a counting job shows after `dt` picoseconds. -/
theorem Running.ticks_pass {r : Running} (phase : r.phase = .count) (dt : Nat) :
    (r.pass dt).ticks = (r.tickTime + dt) / (2 ^ r.job.snapshot.prescale * 62500) := by
  unfold Running.ticks
  rw [(r.pass_times dt).1 phase]
  rfl

/-! ### What a sample leaves alone (R130 to R133) -/

/-- What a sample and its consequences leave as they are: the sequencer, the jobs and the next id; the ids of the
operations that stay keep their order. -/
structure State.SampledInto (s t : State) : Prop where
  seq : t.seq = s.seq
  queue : t.queue = s.queue
  res : t.res = s.res
  nextId : t.ops.nextId = s.ops.nextId
  ids : (t.ops.table.map Operation.opId).Sublist (s.ops.table.map Operation.opId)

theorem State.SampledInto.settled {s t u : State} (h : s.SampledInto t) (books : t.SameBooks u) : s.SampledInto u :=
  ⟨books.seq.trans h.seq, books.queue.trans h.queue, books.res.trans h.res, books.ops ▸ h.nextId, books.ops ▸ h.ids⟩

theorem State.sampledInto_moveOn {s t : State} (h : s.SampledInto t) (o : Operation) :
    s.SampledInto (t.moveOn o) := by
  obtain ⟨seq, queue, res, nextId, ids⟩ := h
  unfold State.moveOn
  split
  · exact ⟨seq, queue, res, nextId, (t.ops.update_ids _).symm ▸ ids⟩
  · exact ⟨seq, queue, res, nextId, (List.filter_sublist.map _).trans ids⟩

theorem State.sampledInto_takeSample (id entry : Nat) (r : Reading) (s : State) :
    s.SampledInto (s.takeSample id entry r) := by
  have updated (o : Operation) : s.SampledInto { s with ops := s.ops.update o } :=
    ⟨rfl, rfl, rfl, rfl, (s.ops.update_ids o).symm ▸ .refl _⟩
  have untouched : s.SampledInto s := ⟨rfl, rfl, rfl, rfl, .refl _⟩
  unfold State.takeSample
  split
  · exact untouched
  · split
    · exact untouched
    · split
      · unfold State.countSample
        dsimp only
        split
        · exact updated _
        · refine State.sampledInto_moveOn ?_ _
          exact (updated _).settled (State.settleEntry_books _ _ _ _)
      · exact untouched

/-- A result that names no operation waiting for it is discarded (R130). -/
theorem State.takeSample_discarded {s : State} {id entry : Nat}
    (none : ∀ o ∈ s.ops.table, ¬ (o.opId = id ∧ o.outstanding = true ∧ o.current = entry)) (r : Reading) :
    s.takeSample id entry r = s := by
  unfold State.takeSample
  split
  · rfl
  · next o found =>
    obtain ⟨mem, named⟩ := OpEngine.find_mem found
    split
    · rfl
    · exact if_neg fun waits => none o mem ⟨named, waits⟩

/-! ### The completion of a job (R35) -/

/-- The state that a completion starts from: the unit, its cell and its claim are released (R35 steps 1 to 3). -/
def State.released (u : UnitId) (run : Running) (s : State) : State := { s with res := s.res.release u run }

/-- What a completion does with the jobs: those that waited are still there, the other busy units run on, and the unit
that completed is FREE or has been given a job (R35, R42, R46). -/
theorem State.Worked.after_release {s v t : State} {u : UnitId} {run : Running} (queue : v.queue = s.queue)
    (res : v.res = s.res.release u run) (worked : v.Worked t) :
    (∀ j ∈ s.queue, ∃ k ∈ t.jobs, k = { j with passCount := k.passCount }) ∧
      (∀ x : UnitId, x ≠ u → s.res.units[x] ≠ none → t.res.units[x] = s.res.units[x]) ∧
      (t.res.units[u] = none ∨ ∃ j cell, t.res.units[u] = some (Running.start j cell)) := by
  refine ⟨fun j hj => ?_, fun x other busy => ?_, worked.free u ?_⟩
  · obtain ⟨k, hk, same⟩ := worked.jobs j (List.mem_append_left _ (queue ▸ hj))
    exact ⟨k, hk, Job.eq_of_bare same⟩
  · have kept : v.res.units[x] = s.res.units[x] := by rw [res, Resources.release_unit, if_neg other.symm]
    exact (worked.busy x (kept ▸ busy)).trans kept
  · rw [res, Resources.release_unit, if_pos rfl]

/-- The completion of an operation's job: the engine takes the sample, and the arbiter and the producers follow. -/
theorem State.completeJob_op {s : State} {u : UnitId} {run : Running} {id entry : Nat}
    (origin : run.job.origin = .op id entry) (r : Reading) :
    s.completeJob u run r = (State.takeSample id entry r (s.released u run)).regranted := by
  unfold State.completeJob State.deliver
  rw [origin]
  rfl

/-- Where no entry is left to issue, no job waits and no operation needs one, neither the producers nor the arbiter
act. -/
theorem State.regranted_idle {s : State} (empty : s.queue = []) (going : s.seq.roundOver = false)
    (nowhere : s.seq.atPosition = none) (needless : ∀ o ∈ s.ops.table, o.needsJob = false) : s.regranted = s := by
  refine State.regranted_of_rests (s.producersRest_iff.mpr ⟨going, ?_, ?_, ?_⟩) empty
  · simp only [State.skipDue, nowhere]
  · simp only [State.nextScan, nowhere]
  · unfold State.nextOperation
    split
    · exact List.find?_eq_none.mpr fun o ho => by simp [needless o ho]
    · rfl

/-- Settles O42: the events that end a job, the bound of its value, the discarded result, and the completion of an
operation's job. -/
theorem jobsComplete : Obligations.JobsComplete := by
  refine ⟨?_, ?_, fun s id entry r none => State.takeSample_discarded none r, ?_⟩
  · intro s u r busy m
    have takes {dt : Nat} (past : (r.pass dt).isPast = false) {test : Running → Bool} (h : test r = true) :=
      State.takesEdge_eq busy past h
    refine ⟨fun phase mode => ?_, fun dt phase mode past enough => ?_, fun dt e phase mode past final => ?_,
      fun spans => ?_⟩
    · show execGateClose u s = _
      unfold execGateClose
      rw [busy]
      exact if_pos (r.gateOpen_iff.mpr ⟨phase, mode⟩)
    · show execPeriodEdge u dt s = _
      unfold execPeriodEdge
      rw [takes past (Running.isIn_iff.mpr ⟨phase, mode⟩), ← Running.ticks_pass phase]
      exact if_pos enough
    · have final : e = m.edgePair.final := final
      show execIntervalFinalEdge u e dt s = _
      unfold execIntervalFinalEdge
      rw [takes past (Running.isIn_iff.mpr ⟨phase, mode⟩), ← Running.ticks_pass phase]
      exact if_pos final
    · show execSpanTimeout u s = _
      unfold execSpanTimeout
      rw [busy]
      exact if_neg (by simp [Running.gateOpen_eq_false spans])
  · intro s u dt r clocks snapshots busy phase mode tick ticks spanned limit
    have running : (u, r) ∈ s.res.running := Resources.mem_running.mpr busy
    have shut : r.gateOpen = false := Running.gateOpen_eq_false fun gate => mode gate.2
    have timeout := Measuring.timeout_le
      (snapshots r.job (List.mem_append_right _ (List.mem_map_of_mem (f := fun x => x.2.job) running)))
    obtain ⟨upTo, before⟩ := Running.ticks_bounded (clocks _ running) phase shut dt
    have inTime : (r.pass dt).isPast = false ↔ spanned ≤ limit ∧ ticks < 65535 := by
      rw [Running.isPast_span (r := r.pass dt) shut, Running.ticks_pass phase, (r.pass_times dt).2 shut]
      simp only [Running.pass_phase, phase, forall_const]
      rfl
    refine ⟨inTime, fun late => ?_, upTo, fun h => ⟨before h, (before h).trans_le timeout⟩⟩
    have past : (r.pass dt).isPast = true := by
      rw [← Bool.not_eq_false, inTime]
      omega
    have missed := State.takesEdge_past busy past
    obtain ⟨-, -, -, period, -⟩ := edges_past missed .rising
    refine ⟨period, fun e => ?_⟩
    obtain ⟨-, -, -, -, -, final⟩ := edges_past missed e
    exact final
  · intro s u run id entry r busy origin distinct going taken t tallies
    have sampled : (s.released u run).SampledInto taken := State.sampledInto_takeSample id entry r _
    have link : (s.released u run).SameLink taken :=
      (State.sameLink_kept _).takeSample id entry r ⟨rfl, rfl, rfl, rfl, rfl⟩
    have after : t = taken.regranted := State.completeJob_op origin r
    clear_value t
    subst after
    have seq : taken.seq = s.seq := sampled.seq
    have plans : taken.ops.SamePlans taken.regranted.ops := State.samePlans_regranted (distinct.sublist sampled.ids)
    have issued : taken.Issued taken.regranted :=
      (State.Issued.refl taken).regranted (by rw [seq]; exact going)
    have worked := State.Worked.regranted taken
    obtain ⟨line, delivery, handler, held, pending⟩ := link
    obtain ⟨jobs, units, unit⟩ := worked.after_release (s := s) sampled.queue sampled.res
    refine ⟨worked.same.channels, worked.same.locks, issued.notices, plans.map_eq _ fun _ => rfl,
      plans.2.trans sampled.nextId, ?_, fun between => ?_, worked.same.line.trans line,
      worked.same.delivery.trans delivery, worked.same.handler.trans handler, worked.same.resetHeld.trans held,
      worked.same.pending.trans pending, jobs, units, unit, fun empty between needless => ?_⟩
    · rw [← seq]
      exact issued.seq
    · rw [← seq] at between
      exact (State.regranted_between between).trans seq
    · rw [← seq] at between
      exact State.regranted_idle (sampled.queue.trans empty) (by simp [Sequencer.roundOver, between])
        (by simp [Sequencer.atPosition, between]) needless

end Sys2Proof.Machine
end

section
/-! Scan results and end reports: what an end report does to the round, and the completion of a scan job that wakes
nothing (R35, R36, R68 to R72, R74). -/

namespace Sys2Proof.Machine

/-! ### End reports (R70 to R72) -/

section
variable {s : State} {entry : Nat}

/-- An end report that leaves others outstanding, or comes before issue has ended, takes its entry from the set. -/
theorem State.endReport_goesOn (inRound : s.seq.inRound = true) (mem : entry ∈ s.seq.outstanding)
    (left : s.seq.issuePos < s.seq.list.length ∨ s.seq.outstanding.erase entry ≠ []) :
    s.endReport entry s.seq.round =
      { s with seq := { s.seq with outstanding := s.seq.outstanding.erase entry } } := by
  unfold State.endReport
  rw [if_pos ⟨inRound, rfl, mem⟩]
  refine if_neg fun done => ?_
  obtain ⟨-, issued, none⟩ := (Sequencer.roundOver_iff _).mp done
  exact left.elim (Nat.not_lt.mpr issued) fun some => some none

/-- The sequencer at its last end report: nothing is left to issue, and nothing outstanding. -/
def Sequencer.drained (q : Sequencer) : Sequencer := { q with outstanding := [] }

/-- The last end report of a round completes it. -/
theorem State.endReport_last (inRound : s.seq.inRound = true) (mem : entry ∈ s.seq.outstanding)
    (issued : s.seq.list.length ≤ s.seq.issuePos) (none : s.seq.outstanding.erase entry = []) :
    s.seq.drained.roundOver = true ∧
      s.endReport entry s.seq.round = State.completeRound { s with seq := s.seq.drained } := by
  have done : s.seq.drained.roundOver = true := (Sequencer.roundOver_iff _).mpr ⟨inRound, issued, rfl⟩
  refine ⟨done, ?_⟩
  unfold State.endReport
  rw [if_pos ⟨inRound, rfl, mem⟩, none]
  exact if_pos done

/-- The last end report of a SINGLE round (R72). -/
theorem State.endReport_single (inRound : s.seq.inRound = true) (mem : entry ∈ s.seq.outstanding)
    (issued : s.seq.list.length ≤ s.seq.issuePos) (none : s.seq.outstanding.erase entry = [])
    (mode : s.seq.mode = .single) :
    s.endReport entry s.seq.round =
      { s with
        seq := { s.seq.ended with mode := .stopped }
        notices := (s.notices.arrive (.scan .done s.seq.round)).1 } := by
  obtain ⟨done, last⟩ := State.endReport_last inRound mem issued none
  rw [last]
  exact State.completeRound_single done mode

/-- The last end report of a round of a paced run, with no start held (R71). -/
theorem State.endReport_waits (inRound : s.seq.inRound = true) (mem : entry ∈ s.seq.outstanding)
    (issued : s.seq.list.length ≤ s.seq.issuePos) (none : s.seq.outstanding.erase entry = [])
    (mode : s.seq.mode = .running ∨ s.seq.mode = .watch) (held : s.seq.heldStart = false) :
    s.endReport entry s.seq.round = { s with seq := s.seq.ended } := by
  obtain ⟨done, last⟩ := State.endReport_last inRound mem issued none
  rw [last]
  exact State.completeRound_waits done mode held

/-- The state from which a held start begins the next round: the last one has ended. -/
def State.heldOver (s : State) : State := { s with seq := { s.seq.ended with heldStart := false } }

/-- The last end report of a round of a paced run, with a start held (R71). -/
theorem State.endReport_begins (inRound : s.seq.inRound = true) (mem : entry ∈ s.seq.outstanding)
    (issued : s.seq.list.length ≤ s.seq.issuePos) (none : s.seq.outstanding.erase entry = [])
    (mode : s.seq.mode = .running ∨ s.seq.mode = .watch) (held : s.seq.heldStart = true) :
    s.endReport entry s.seq.round = s.heldOver.roundBegin := by
  obtain ⟨done, last⟩ := State.endReport_last inRound mem issued none
  rw [last]
  exact State.completeRound_begins done mode held

theorem State.heldOver_fresh (mode : s.seq.mode = .running ∨ s.seq.mode = .watch) :
    s.heldOver.roundBegin.seq.Fresh :=
  ⟨rfl, rfl, rfl, rfl, mode⟩

end

/-! ### The completion of a scan job (R35, R36) -/

/-- When a result is reported as a wake: its transition is TOUCH, ZONE or FAULT (R74). -/
theorem Verdict.wakes_iff (v : Verdict) :
    v.wakes = true ↔ ∃ x, v.transition = some x ∧ x.reason ∈ [Reason.touch, .zone, .fault] := by
  unfold Verdict.wakes
  cases v.transition <;> simp [or_assoc]

theorem Verdict.wakes_eq_false {v : Verdict}
    (h : ∀ x, v.transition = some x → x.reason ∉ [Reason.touch, .zone, .fault]) : v.wakes = false := by
  rw [← Bool.not_eq_true, v.wakes_iff]
  exact fun ⟨x, hx, wakes⟩ => h x hx wakes

/-- A result that wakes nothing is tracked, and its end reported (R36). -/
theorem State.scanResult_quiet {s : State} {c : ChanId} {r : Reading}
    (quiet : s.seq.mode = .watch → (s.verdict c r).wakes = false) (entry round : Nat) :
    s.scanResult c entry round r = ((s.trackResult c round r).endReport entry round).drive := by
  have asleep : (if (s.verdict c r).wakes then (s.trackResult c round r).wake .detect else s.trackResult c round r) =
      s.trackResult c round r := by
    by_cases watch : s.seq.mode = .watch
    · rw [quiet watch]
      rfl
    · have outside : (s.trackResult c round r).seq.mode ≠ .watch := by
        rwa [(s.trackResult_books c round r).seq]
      rw [State.wake_outside _ _ outside, ite_self]
  unfold State.scanResult
  dsimp only
  rw [asleep]

/-- The completion of a scan job whose result wakes nothing. -/
theorem State.completeJob_quiet {s : State} {u : UnitId} {run : Running} {entry round : Nat} {r : Reading}
    (origin : run.job.origin = .scan entry round)
    (quiet : s.seq.mode = .watch → (s.verdict run.job.channel r).wakes = false) :
    s.completeJob u run r =
      (((s.released u run).trackResult run.job.channel round r).endReport entry round).regranted := by
  unfold State.completeJob State.deliver
  rw [origin]
  exact congrArg (fun t => (State.grantPass t).drive)
    (State.scanResult_quiet (s := s.released u run) quiet entry round)

/-- With nothing left to issue no entry stands at the issue position. -/
theorem Sequencer.atPosition_none {q : Sequencer} (issued : q.list.length ≤ q.issuePos) : q.atPosition = none := by
  unfold Sequencer.atPosition
  rw [List.getElem?_eq_none issued, ite_self]

/-- The tracker, taking the result of a completed scan job, leaves the link, the sequencer, the jobs and the operations
of the part as the release left them. -/
theorem State.tracked_parts (u : UnitId) (run : Running) (round : Nat) (r : Reading) (s : State) :
    (s.released u run).SameBooks ((s.released u run).trackResult run.job.channel round r) ∧
      s.SameLink ((s.released u run).trackResult run.job.channel round r) :=
  ⟨State.trackResult_books _ _ _ _, (State.sameLink_kept s).trackResult _ _ _ ⟨rfl, rfl, rfl, rfl, rfl⟩⟩

/-- The eligible entries of the model's rule for issue are those of the statement. -/
theorem State.issuable_iff (s : State) (i : Nat) :
    s.Issuable i ↔ i ∈ s.seq.eligible ∧ ∃ e, s.seq.list[i]? = some e ∧
      s.channels[e.channel].config.enable = true ∧ s.channels[e.channel].live.state ≠ .calibrating := by
  simp [State.Issuable, State.scannable]

/-- A held start that an end report frees begins the round that the rules describe, with the timer of the run and its
overruns as they are (R68, R71). -/
theorem State.heldOver_began {s t : State} (mode : s.seq.mode = .running ∨ s.seq.mode = .watch)
    (ran : s.heldOver.roundBegin.Ran t) (rests : t.ProducersRest) :
    t.seq.mode = s.seq.mode ∧ t.seq.round = (s.seq.round + 1) % 65536 ∧ t.seq.heldStart = false ∧
      t.seq.timer = s.seq.timer ∧ t.seq.list = s.seq.list ∧ t.seq.overruns = s.seq.overruns ∧
      t.seq.overrunReported = s.seq.overrunReported ∧ s.BeganRound s.seq.mode t := by
  obtain ⟨mode', round, timer, reported, held, list, -, -, overruns⟩ := ran.seq_fields
  exact ⟨mode', round, held, timer, list, overruns, reported, ran.began (State.heldOver_fresh mode) rests (s := s) rfl
    s.heldOver.mem_roundBegin_eligible s.heldOver.roundBegin_issuable⟩

/-! ### What follows an end report (R43, R69 to R72) -/

section
variable {s t : State} {entry : Nat}

/-- A report that leaves others outstanding: the round goes on, and its entries are issued further. -/
theorem State.reported_goesOn (inRound : s.seq.inRound = true) (mem : entry ∈ s.seq.outstanding)
    (more : s.seq.outstanding.erase entry ≠ []) (ht : t = (s.endReport entry s.seq.round).regranted) :
    t.notices = s.notices ∧ s.seq.issuePos ≤ t.seq.issuePos ∧
      t.seq = { s.seq with outstanding := t.seq.outstanding, issuePos := t.seq.issuePos } ∧
      ∀ i, i ∈ t.seq.outstanding ↔ i ∈ s.seq.outstanding.erase entry ∨
        s.seq.issuePos ≤ i ∧ i < t.seq.issuePos ∧ i ∈ s.seq.eligible ∧ ∃ e, s.seq.list[i]? = some e ∧
          s.channels[e.channel].config.enable = true ∧ s.channels[e.channel].live.state ≠ .calibrating := by
  rw [State.endReport_goesOn inRound mem (.inr more)] at ht
  have issued := ht ▸ (State.Issued.refl
    { s with seq := { s.seq with outstanding := s.seq.outstanding.erase entry } }).regranted fun _ => more
  refine ⟨issued.notices, issued.forward, issued.seq, fun i => ?_⟩
  rw [issued.outstanding i, State.issuable_iff]

/-- Between rounds what follows a report leaves the sequencer and the records as they are. -/
theorem State.regranted_keepsBetween (between : s.seq.inRound = false) :
    s.regranted.seq = s.seq ∧ s.regranted.notices = s.notices := by
  refine ⟨State.regranted_between between, ((State.Issued.refl s).regranted fun going => ?_).notices⟩
  rw [between] at going
  cases going

/-- The last report of a SINGLE round: STOPPED, with SCAN DONE (R72). -/
theorem State.reported_single (inRound : s.seq.inRound = true) (mem : entry ∈ s.seq.outstanding)
    (issued : s.seq.list.length ≤ s.seq.issuePos) (none : s.seq.outstanding.erase entry = [])
    (mode : s.seq.mode = .single) (ht : t = (s.endReport entry s.seq.round).regranted) :
    t.seq = { s.seq.ended with mode := .stopped } ∧
      t.notices = (s.notices.arrive (.scan .done s.seq.round)).1 := by
  rw [State.endReport_single inRound mem issued none mode] at ht
  rw [ht]
  exact State.regranted_keepsBetween rfl

/-- The last report of a paced round: BETWEEN, or with a held start the next round (R71). -/
theorem State.reported_paced (inRound : s.seq.inRound = true) (mem : entry ∈ s.seq.outstanding)
    (issued : s.seq.list.length ≤ s.seq.issuePos) (none : s.seq.outstanding.erase entry = [])
    (mode : s.seq.mode = .running ∨ s.seq.mode = .watch) (ht : t = (s.endReport entry s.seq.round).regranted) :
    t.notices = s.notices ∧ (s.seq.heldStart = false → t.seq = s.seq.ended) ∧
      (s.seq.heldStart = true →
        t.seq.mode = s.seq.mode ∧ t.seq.round = (s.seq.round + 1) % 65536 ∧ t.seq.heldStart = false ∧
          t.seq.timer = s.seq.timer ∧ t.seq.list = s.seq.list ∧ t.seq.overruns = s.seq.overruns ∧
          t.seq.overrunReported = s.seq.overrunReported ∧ s.BeganRound s.seq.mode t) := by
  cases held : s.seq.heldStart with
  | false =>
    rw [State.endReport_waits inRound mem issued none mode held] at ht
    obtain ⟨seq, notices⟩ := State.regranted_keepsBetween (s := { s with seq := s.seq.ended }) rfl
    rw [ht]
    exact ⟨notices, fun _ => seq, nofun⟩
  | true =>
    rw [State.endReport_begins inRound mem issued none mode held] at ht
    have ran : s.heldOver.roundBegin.Ran t := ht ▸ State.Ran.regranted (.inl (.refl _)) (State.heldOver_fresh mode)
    exact ⟨ran.notices, nofun, fun _ => State.heldOver_began mode ran (ht ▸ State.regranted_rests _)⟩

end

/-- Settles O40: the end reports first, then the completions, each of which ends in an end report. -/
theorem scanResultIsTaken : Obligations.ScanResultIsTaken := by
  refine ⟨?_, fun s entry round other => if_neg other, ?_, ?_⟩
  · intro s u run entry r outside empty table origin inRound issued mem left
    obtain ⟨books, -⟩ := s.tracked_parts u run s.seq.round r
    rw [State.completeJob_quiet origin fun watch => absurd watch outside]
    have seq : (State.trackResult run.job.channel s.seq.round r (s.released u run)).seq = s.seq := books.seq
    have told := State.endReport_goesOn (s := State.trackResult run.job.channel s.seq.round r (s.released u run))
      (entry := entry) (by rwa [seq]) (by rwa [seq]) (.inr (by rwa [seq]))
    rw [seq] at told
    rw [told]
    refine State.regranted_idle (books.queue.trans empty) ?_ (Sequencer.atPosition_none issued) ?_
    · simp [Sequencer.roundOver, left]
    · intro o ho
      have ho : o ∈ s.ops.table := books.ops ▸ ho
      rw [table] at ho
      cases ho
  · intro s entry inRound mem left ended next
    refine ⟨fun more => State.endReport_goesOn inRound mem more, fun issued none => ⟨fun mode => ?_, fun mode => ?_⟩⟩
    · exact State.endReport_single inRound mem issued none mode
    · refine ⟨fun held => State.endReport_waits inRound mem issued none mode held, fun held => ?_⟩
      exact ⟨_, s.heldOver.mem_roundBegin_eligible, State.endReport_begins inRound mem issued none mode held⟩
  · intro s u run entry r busy origin inRound mem quiet tracked t left ended
    obtain ⟨books, line, delivery, handler, held, pending⟩ :
        (s.released u run).SameBooks tracked ∧ s.SameLink tracked := s.tracked_parts u run s.seq.round r
    have after : t = (tracked.endReport entry s.seq.round).regranted :=
      State.completeJob_quiet origin fun watch => Verdict.wakes_eq_false (quiet watch)
    clear_value t tracked
    have seq : tracked.seq = s.seq := books.seq
    have ops : tracked.ops = s.ops := books.ops
    have worked : tracked.Worked t := after ▸ (State.Worked.endReport _ _ _).trans (State.Worked.regranted _)
    obtain ⟨jobs, units, -⟩ := worked.after_release (s := s) books.queue books.res
    refine ⟨worked.same.channels, worked.same.locks, worked.same.line.trans line, worked.same.delivery.trans delivery,
      worked.same.handler.trans handler, worked.same.resetHeld.trans held, worked.same.pending.trans pending,
      worked.ids.trans (by rw [ops]), worked.nextId.trans (by rw [ops]), jobs, units,
      fun more => ?_, fun issued none => ⟨fun mode => ?_, fun mode => ?_⟩⟩
    · have told := State.reported_goesOn (s := tracked) (t := t) (entry := entry)
      rw [seq] at told
      exact told inRound mem more after
    · have told := State.reported_single (s := tracked) (t := t) (entry := entry)
      rw [seq] at told
      exact told inRound mem issued none mode after
    · have told := State.reported_paced (s := tracked) (t := t) (entry := entry)
      rw [seq] at told
      exact told inRound mem issued none mode after

end Sys2Proof.Machine
end

section
/-! Detections in WATCH: the wake abandons the round and begins a RUNNING run, whose first round the producers issue
(R35, R36, R65, R66, R68, R74, R76). -/

namespace Sys2Proof.Machine

/-! ### The scan jobs of the round in progress (R69) -/

theorem State.completeRound_unheld {s : State} (held : s.seq.heldStart = false) :
    s.completeRound.seq.heldStart = false ∧ s.completeRound.seq.round = s.seq.round ∧
      s.completeRound.seq.inRound = false := by
  unfold State.completeRound
  dsimp only
  rw [if_neg (by simp [held])]
  split <;> exact ⟨held, rfl, rfl⟩

theorem State.completeRound_jobs (s : State) : s.completeRound.jobs = s.jobs := by
  unfold State.jobs
  rw [s.completeRound_res, s.completeRound_queue]

/-- With no start held, a drive adds operation jobs and, in a round, scan jobs that name it. -/
theorem State.drive_forall_jobs {s : State} (held : s.seq.heldStart = false) {Q : Job → Prop}
    (bare : ∀ j : Job, Q j.bare ↔ Q j) (ops : ∀ j : Job, j.isOp = true → Q j)
    (scans : s.seq.inRound = true → ∀ (j : Job) (e : Nat), j.origin = .scan e s.seq.round → Q j)
    (h : ∀ j ∈ s.jobs, Q j) : ∀ j ∈ s.drive.jobs, Q j := by
  have entered {t : State} (ht : ∀ j ∈ t.jobs, Q j) {o : Origin} {c : ChanId} (new : Q (t.newJob o c)) :
      ∀ j ∈ (t.enterJob o c).jobs, Q j := by
    intro j hj
    rcases State.mem_jobs_enterJob hj with same | ⟨k, hk, same⟩
    · rwa [← bare, same]
    · rw [← bare, ← same, bare]
      exact ht k hk
  refine (State.driveFor_keeps (fun t => (t.seq.heldStart = false ∧ t.seq.round = s.seq.round ∧
    (t.seq.inRound = true → s.seq.inRound = true)) ∧ ∀ j ∈ t.jobs, Q j) (fun t ⟨⟨held, round, _⟩, jobs⟩ _ => ?_)
    (fun _ _ ht _ => ht) (fun t e ⟨seq, jobs⟩ next => ⟨seq, ?_⟩) (fun t o ⟨seq, jobs⟩ _ => ?_) (fun _ ht => ht) _ _ s
    ⟨⟨held, rfl, id⟩, h⟩).2
  · obtain ⟨held', round', between⟩ := State.completeRound_unheld held
    refine ⟨⟨held', round'.trans round, fun going => ?_⟩, t.completeRound_jobs ▸ jobs⟩
    rw [between] at going
    cases going
  · obtain ⟨-, round, going⟩ := seq
    have inRound := going (Sequencer.atPosition_some (State.nextScan_at next)).1
    refine entered (t := { t with seq := { t.seq with
      outstanding := t.seq.outstanding ++ [t.seq.issuePos], issuePos := t.seq.issuePos + 1 } }) jobs ?_
    exact scans inRound _ t.seq.issuePos (congrArg (Origin.scan t.seq.issuePos) round)
  · refine ⟨by rwa [t.issueSample_seq], ?_⟩
    unfold State.issueSample
    split
    · exact jobs
    · exact entered (t := { t with ops := t.ops.update { o with outstanding := true, started := true } }) jobs
        (ops _ rfl)

/-- The issue of a round that has just begun, with no scan job left from before, leaves scan jobs of that round alone.
-/
theorem State.scanJobsOfRound_regranted {b : State} (fresh : b.seq.Fresh) (none : ∀ j ∈ b.jobs, j.isScan = false) :
    b.regranted.ScanJobsOfRound := by
  have driven : b.Ran b.drive := State.Ran.drive (.inl (.refl b)) fresh
  obtain ⟨-, round, -, -, held, -⟩ := driven.seq_fields
  obtain ⟨-, round', -⟩ := (State.Ran.regranted (.inl (.refl b)) fresh).seq_fields
  have ofOp (j : Job) (op : j.isOp = true) : ∀ e n, j.origin = .scan e n → n = b.seq.round := by
    obtain ⟨id, entry, origin⟩ := (Job.isOp_iff j).mp op
    intro e n named
    rw [origin] at named
    cases named
  have first := State.drive_forall_jobs fresh.heldStart (Q := fun j => ∀ e n, j.origin = .scan e n → n = b.seq.round)
    (fun _ => Iff.rfl) ofOp (fun _ j e named e' n named' => by rw [named] at named'; cases named'; rfl)
    (fun j hj => ofOp j (Job.isOp_of_not_isScan (none j hj)))
  have granted : ∀ j ∈ b.drive.grantPass.jobs, ∀ e n, j.origin = .scan e n → n = b.seq.round := by
    intro j hj
    obtain ⟨k, hk, same⟩ := State.mem_jobs_grantPass hj
    rw [← (Job.bare_eq same).1]
    exact first k hk
  unfold State.ScanJobsOfRound
  rw [round']
  exact State.drive_forall_jobs (s := b.drive.grantPass) (held.trans fresh.heldStart)
    (Q := fun j => ∀ e n, j.origin = .scan e n → n = b.seq.round) (fun _ => Iff.rfl) ofOp
    (fun _ j e named e' n named' => by rw [named] at named'; cases named'; exact round) granted

/-! ### Withdrawals from any state (R54) -/

/-- The aborts of a withdrawal leave on the units no job that is named, and the queue as it is. -/
theorem State.abortUnits_units (named : Job → Bool) (us : List UnitId) {s t : State}
    (ht : t = us.foldl (fun t u => t.abortUnit named u) s) :
    t.queue = s.queue ∧
      ∀ v r, t.res.units[v] = some r → s.res.units[v] = some r ∧ (v ∈ us → named r.job = false) := by
  subst ht
  induction us generalizing s with
  | nil => exact ⟨rfl, fun v r busy => ⟨busy, fun mem => by cases mem⟩⟩
  | cons u us ih =>
    obtain ⟨queue, units⟩ := ih (s := s.abortUnit named u)
    refine ⟨queue.trans (State.abortUnit_parts named u s).1, fun v r busy => ?_⟩
    obtain ⟨before, spared⟩ := units v r busy
    obtain ⟨before, atUnit⟩ := State.abortUnit_unit before
    exact ⟨before, fun mem => (List.mem_cons.mp mem).elim (fun here => atUnit here.symm) spared⟩

/-- A withdrawal leaves no job that its selection names, waiting or running. -/
theorem State.withdraw_unnamed {named : Job → Bool} (bare : ∀ j : Job, named j.bare = named j) (s : State) :
    ∀ j ∈ (s.withdraw named).jobs, named j = false := by
  intro j hj
  cases names : s.names named with
  | false =>
    rw [State.withdraw_nothing names] at hj
    obtain ⟨waiting, running⟩ := State.names_false names
    rcases State.mem_jobs.mp hj with hj | ⟨u, r, busy, rfl⟩
    · exact waiting j hj
    · exact running u r busy
  | true =>
    rw [State.withdraw_eq names] at hj
    obtain ⟨k, hk, same⟩ := State.mem_jobs_grantPass hj
    rw [← bare, ← same, bare]
    obtain ⟨queue, units⟩ := State.abortUnits_units (t := s.afterEnds named) named [0, 1, 2, 3] rfl
    rcases State.mem_jobs.mp hk with hk | ⟨u, r, busy, rfl⟩
    · obtain ⟨-, told, -⟩ := State.endsWithout_parts (s.queue.filter named)
        { s with queue := s.queue.filter fun j => !named j }
      rw [queue, told] at hk
      simpa using List.of_mem_filter hk
    · exact (units u r busy).2 (mem_units u)

/-- Between rounds a withdrawal adds no record and keeps the ids of the operations. -/
theorem State.withdraw_keepsIds {s : State} (between : s.seq.inRound = false) (named : Job → Bool) :
    (s.withdraw named).notices = s.notices ∧
      (s.withdraw named).ops.table.map Operation.opId = s.ops.table.map Operation.opId ∧
      (s.withdraw named).ops.nextId = s.ops.nextId := by
  have told (t : State) (j : Job)
      (ht : t.seq = s.seq ∧ t.notices = s.notices ∧ t.ops.table.map Operation.opId = s.ops.table.map Operation.opId ∧
        t.ops.nextId = s.ops.nextId) :
      (t.endWithout j).seq = s.seq ∧ (t.endWithout j).notices = s.notices ∧
        (t.endWithout j).ops.table.map Operation.opId = s.ops.table.map Operation.opId ∧
        (t.endWithout j).ops.nextId = s.ops.nextId := by
    unfold State.endWithout
    split
    · unfold State.endReport
      rw [if_neg (by simp [ht.1, between])]
      exact ht
    · obtain ⟨seq, notices, ids, nextId⟩ := ht
      obtain ⟨ids', nextId'⟩ := t.ops.jobEnded_ids _
      exact ⟨seq, notices, ids'.trans ids, nextId'.trans nextId⟩
  refine (State.withdraw_keeps (fun t => t.seq = s.seq ∧ t.notices = s.notices ∧
    t.ops.table.map Operation.opId = s.ops.table.map Operation.opId ∧ t.ops.nextId = s.ops.nextId) named
    (fun _ ht => ht) told (fun t u ht => ?_) (fun _ ht => ht) s ⟨rfl, rfl, rfl, rfl⟩).2
  unfold State.abortUnit
  split
  · exact ht
  · split
    · exact told _ _ ht
    · exact ht

/-- Between rounds a drive adds no record and no scan job (R43, R128). -/
theorem State.drive_keepsBetween {s : State} (between : s.seq.inRound = false) (held : s.seq.heldStart = false)
    (none : ∀ j ∈ s.jobs, j.isScan = false) :
    s.drive.notices = s.notices ∧ ∀ j ∈ s.drive.jobs, j.isScan = false := by
  have apart {X : Prop} (going : s.seq.inRound = true) : X := by
    rw [between] at going
    cases going
  exact ⟨((State.Issued.refl s).drive fun going => apart going).notices,
    State.drive_forall_jobs held (fun _ => Iff.rfl) (fun j op => by simpa [Job.isOp] using op)
      (fun going => apart going) none⟩

/-- The abandoning of a round adds no record, keeps the ids of the operations and leaves no scan job (R65). -/
theorem State.abandon_parts (s : State) :
    s.abandon.notices = s.notices ∧ s.abandon.ops.table.map Operation.opId = s.ops.table.map Operation.opId ∧
      s.abandon.ops.nextId = s.ops.nextId ∧ ∀ j ∈ s.abandon.jobs, j.isScan = false := by
  have seq := State.withdraw_between (s := { s with seq := s.seq.abandoned }) rfl Job.isScan
  obtain ⟨notices, ids, nextId⟩ := State.withdraw_keepsIds (s := { s with seq := s.seq.abandoned }) rfl Job.isScan
  have gone := State.withdraw_unnamed (named := Job.isScan) (fun _ => rfl) { s with seq := s.seq.abandoned }
  obtain ⟨notices', none⟩ := State.drive_keepsBetween (by rw [seq]; rfl) (by rw [seq]; rfl) gone
  have worked := State.Worked.drive (State.withdraw Job.isScan { s with seq := s.seq.abandoned })
  exact ⟨notices'.trans notices, worked.ids.trans ids, worked.nextId.trans nextId, none⟩

/-! ### The wake (R76) -/

/-- The state in which a paced run has begun its first round, before any of it is issued (R61, R66, R68). -/
def State.runBegun (mode : SeqMode) (period : Nat) (s : State) : State :=
  let begun := (s.beginRun mode).roundBegin
  { begun with seq := { begun.seq with timer := some (Timer.start period) } }

section
variable (mode : SeqMode) (period : Nat) (s : State)

theorem State.startPaced_eq : s.startPaced mode period = (s.runBegun mode period).drive := rfl

theorem State.runBegun_seq :
    (s.runBegun mode period).seq =
      { s.seq with
        mode := mode, round := nextRound s.seq.round, inRound := true, issuePos := 0, outstanding := []
        heldStart := false, overrunReported := false, timer := some (Timer.start period)
        eligible := (s.runBegun mode period).seq.eligible } := rfl

theorem State.runBegun_same : s.SameBeyondJobs (s.runBegun mode period) := ⟨rfl, rfl, rfl, rfl, rfl, rfl, rfl⟩

theorem State.runBegun_parts :
    (s.runBegun mode period).notices = s.notices ∧ (s.runBegun mode period).ops = s.ops ∧
      (s.runBegun mode period).jobs = s.jobs := ⟨rfl, rfl, rfl⟩

theorem State.runBegun_eligible (i : Nat) :
    (i ∈ (s.runBegun mode period).seq.eligible ↔ s.DueAndEligible mode (nextRound s.seq.round) i) ∧
      ((s.runBegun mode period).Issuable i ↔ s.DueAndEligible mode (nextRound s.seq.round) i) :=
  ⟨(s.beginRun mode).mem_roundBegin_eligible i, (s.beginRun mode).roundBegin_issuable i⟩

end

/-- The state in which a wake has recorded itself and abandoned the round in progress (R65, R76). -/
def State.wakeAbandoned (reason : WakeReason) (s : State) : State :=
  (s.addRecord (.scan (.woke reason) s.seq.round)).abandon

/-- The state in which a wake has begun the first round of its RUNNING run, before any of it is issued (R76). -/
def State.woken (reason : WakeReason) (s : State) : State := (s.wakeAbandoned reason).runBegun .running s.seq.runPeriod

section
variable (reason : WakeReason) (s : State)

theorem State.wakeAbandoned_seq : (s.wakeAbandoned reason).seq = s.seq.abandoned :=
  State.abandon_seq _

theorem State.wakeAbandoned_same : s.SameBeyondJobs (s.wakeAbandoned reason) :=
  (s.addRecord_same _).trans (State.abandon_same _)

theorem State.wake_eq (watch : s.seq.mode = .watch) : s.wake reason = (s.woken reason).drive := by
  have period : (s.wakeAbandoned reason).seq.runPeriod = s.seq.runPeriod := by rw [State.wakeAbandoned_seq]; rfl
  unfold State.woken
  rw [← State.startPaced_eq, ← period]
  exact if_pos watch

/-- The sequencer after a wake, but for the eligible entries of its round. -/
theorem State.woken_seq :
    (s.woken reason).seq =
      { s.seq.abandoned with
        mode := .running, round := nextRound s.seq.round, inRound := true, overrunReported := false
        timer := some (Timer.start s.seq.runPeriod), eligible := (s.woken reason).seq.eligible } := by
  unfold State.woken
  rw [State.runBegun_seq, State.wakeAbandoned_seq]
  rfl

theorem State.woken_fresh : (s.woken reason).seq.Fresh := by
  rw [State.woken_seq]
  exact ⟨rfl, rfl, rfl, rfl, .inl rfl⟩

theorem State.woken_same : s.SameBeyondJobs (s.woken reason) :=
  (s.wakeAbandoned_same reason).trans (State.runBegun_same _ _ _)

theorem State.woken_parts :
    (s.woken reason).notices = (s.notices.arrive (.scan (.woke reason) s.seq.round)).1 ∧
      (s.woken reason).ops.table.map Operation.opId = s.ops.table.map Operation.opId ∧
      (s.woken reason).ops.nextId = s.ops.nextId ∧ ∀ j ∈ (s.woken reason).jobs, j.isScan = false := by
  obtain ⟨notices, ops, jobs⟩ := (s.wakeAbandoned reason).runBegun_parts .running s.seq.runPeriod
  unfold State.woken
  rw [notices, ops, jobs]
  exact State.abandon_parts (s.addRecord _)

/-- The entries of the round that a wake begins: those due and eligible among the scan list and the channels as the wake
found them (R68). -/
theorem State.woken_eligible (i : Nat) :
    (i ∈ (s.woken reason).seq.eligible ↔ s.DueAndEligible .running (nextRound s.seq.round) i) ∧
      ((s.woken reason).Issuable i ↔ s.DueAndEligible .running (nextRound s.seq.round) i) := by
  have due : (s.wakeAbandoned reason).DueAndEligible .running (nextRound (s.wakeAbandoned reason).seq.round) i ↔
      s.DueAndEligible .running (nextRound s.seq.round) i := by
    unfold State.DueAndEligible
    rw [State.wakeAbandoned_seq, (s.wakeAbandoned_same reason).channels]
    rfl
  rw [← due]
  exact (s.wakeAbandoned reason).runBegun_eligible .running s.seq.runPeriod i

end

/-! ### Results that wake (R36, R74) -/

/-- The end report of a result that woke the part names an abandoned round, so nothing follows the wake (R70, R76). -/
theorem State.scanResult_wakes {s : State} {c : ChanId} {r : Reading} (watch : s.seq.mode = .watch)
    (wakes : (s.verdict c r).wakes = true) (entry : Nat) :
    s.scanResult c entry s.seq.round r = ((s.trackResult c s.seq.round r).woken .detect).drive := by
  have seq := (s.trackResult_books c s.seq.round r).seq
  unfold State.scanResult
  dsimp only
  rw [if_pos wakes, State.wake_eq _ _ (by rw [seq]; exact watch)]
  generalize s.trackResult c s.seq.round r = tracked at seq
  have ran : (tracked.woken .detect).Ran (tracked.woken .detect).drive :=
    State.Ran.drive (.inl (.refl _)) (State.woken_fresh _ _)
  obtain ⟨-, round, -⟩ := ran.seq_fields
  have ignored : (tracked.woken .detect).drive.endReport entry s.seq.round = (tracked.woken .detect).drive := by
    refine if_neg fun ⟨_, named, _⟩ => ?_
    rw [round, State.woken_seq, seq] at named
    exact nextRound_ne _ named
  rw [ignored, State.drive_of_rests (State.drive_rests _)]

/-- The completion of a scan job whose result wakes the part. -/
theorem State.completeJob_wakes {s : State} {u : UnitId} {run : Running} {entry : Nat} {r : Reading}
    (origin : run.job.origin = .scan entry s.seq.round) (watch : s.seq.mode = .watch)
    (wakes : (s.verdict run.job.channel r).wakes = true) :
    s.completeJob u run r =
      (((s.released u run).trackResult run.job.channel s.seq.round r).woken .detect).regranted := by
  unfold State.completeJob State.deliver
  rw [origin]
  exact congrArg (fun t => (State.grantPass t).drive)
    (State.scanResult_wakes (s := s.released u run) watch wakes entry)

/-- In WATCH an end report and what follows it neither leave WATCH nor add a record (R71, R72). -/
theorem State.endReport_watch {s : State} (watch : s.seq.mode = .watch) (entry round : Nat) :
    (s.endReport entry round).drive.seq.mode = .watch ∧ (s.endReport entry round).drive.notices = s.notices := by
  have completes (t : State) (ht : t.seq.mode = .watch ∧ t.notices = s.notices) :
      t.completeRound.seq.mode = .watch ∧ t.completeRound.notices = s.notices := by
    unfold State.completeRound
    rw [ht.1]
    dsimp only
    split <;> exact ht
  refine State.driveFor_keeps (fun t => t.seq.mode = .watch ∧ t.notices = s.notices) (fun t ht _ => completes t ht)
    (fun _ _ ht _ => ht) (fun _ _ ht _ => ht) (fun t o ht _ => ?_) (fun _ ht => ht) _ _ _ ?_
  · rw [t.issueSample_seq]
    exact ⟨ht.1, ((State.Issued.refl t).issueSample o).notices.trans ht.2⟩
  · unfold State.endReport State.completeIfOver
    split
    · split
      · exact completes _ ⟨watch, rfl⟩
      · exact ⟨watch, rfl⟩
    · exact ⟨watch, rfl⟩

/-- What follows a wake: a RUNNING run from zero in its next round, which the producers issue, and no scan job of the
abandoned one (R65, R66, R68, R76). -/
theorem State.woken_regranted (reason : WakeReason) {s t : State} (ht : t = (s.woken reason).regranted) :
    t.notices = (s.notices.arrive (.scan (.woke reason) s.seq.round)).1 ∧ t.seq.mode = .running ∧
      t.seq.round = (s.seq.round + 1) % 65536 ∧ t.seq.timer = some { period := s.seq.runPeriod, elapsed := 0 } ∧
      t.seq.overrunReported = false ∧ t.seq.heldStart = false ∧ t.seq.list = s.seq.list ∧
      t.seq.runPeriod = s.seq.runPeriod ∧ t.seq.watchPeriod = s.seq.watchPeriod ∧ t.seq.overruns = s.seq.overruns ∧
      s.BeganRound .running t ∧ t.ScanJobsOfRound := by
  have fresh := s.woken_fresh reason
  have ran : (s.woken reason).Ran t := ht ▸ State.Ran.regranted (.inl (.refl _)) fresh
  have seq := s.woken_seq reason
  have round : (s.woken reason).seq.round = nextRound s.seq.round := by rw [seq]
  obtain ⟨notices, -, -, noScan⟩ := s.woken_parts reason
  have began : s.BeganRound .running t := by
    refine ran.began fresh (ht ▸ State.regranted_rests _) (by rw [seq]; rfl) (fun i => ?_) (fun i => ?_)
    · rw [round]
      exact (s.woken_eligible reason i).1
    · rw [round]
      exact (s.woken_eligible reason i).2
  have jobs : t.ScanJobsOfRound := ht ▸ State.scanJobsOfRound_regranted fresh noScan
  have fields := ran.seq_fields
  rw [seq] at fields
  obtain ⟨mode, round, timer, reported, held, list, runPeriod, watchPeriod, overruns⟩ := fields
  exact ⟨ran.notices.trans notices, mode, round, timer, reported, held, list, runPeriod, watchPeriod, overruns, began,
    jobs⟩

/-- Settles O39: a detection makes of the tracked state the state that the wake begins, and the producers issue its
round. -/
theorem detectionWakes : Obligations.DetectionWakes := by
  refine ⟨?_, ?_⟩
  · intro s c entry r watch _ t tracked
    have seq : tracked.seq = s.seq := (s.trackResult_books c s.seq.round r).seq
    cases wakes : (s.verdict c r).wakes with
    | true =>
      have after : t = (tracked.woken .detect).drive := State.scanResult_wakes watch wakes entry
      clear_value t tracked
      subst after
      have same := (tracked.woken_same .detect).trans (State.drive_same _)
      have ran : (tracked.woken .detect).Ran (tracked.woken .detect).drive :=
        State.Ran.drive (.inl (.refl _)) (State.woken_fresh _ _)
      refine ⟨same.channels, same.locks, fun _ => ?_, fun quiet => ?_⟩
      · obtain ⟨mode, round, -⟩ := ran.seq_fields
        obtain ⟨notices, -⟩ := tracked.woken_parts .detect
        rw [mode, round, ran.notices, notices, State.woken_seq, seq]
        exact ⟨rfl, rfl, rfl⟩
      · rw [Verdict.wakes_eq_false quiet] at wakes
        cases wakes
    | false =>
      have after : t = (tracked.endReport entry s.seq.round).drive := State.scanResult_quiet (fun _ => wakes) _ _
      clear_value t tracked
      subst after
      have same := (tracked.endReport_same entry s.seq.round).trans (State.drive_same _)
      refine ⟨same.channels, same.locks, fun detected => ?_, fun _ => ?_⟩
      · rw [(Verdict.wakes_iff _).mpr detected] at wakes
        cases wakes
      · exact State.endReport_watch (by rw [seq]; exact watch) entry _
  · intro s u run entry r busy origin watch detected tracked t
    obtain ⟨books, line, delivery, handler, held, pending⟩ :
        (s.released u run).SameBooks tracked ∧ s.SameLink tracked := s.tracked_parts u run s.seq.round r
    have after : t = (tracked.woken .detect).regranted :=
      State.completeJob_wakes origin watch ((Verdict.wakes_iff _).mpr detected)
    clear_value t tracked
    have seq : tracked.seq = s.seq := books.seq
    have ops : tracked.ops = s.ops := books.ops
    obtain ⟨-, ids, nextId, -⟩ := tracked.woken_parts .detect
    have worked : (tracked.woken .detect).Worked t := after ▸ State.Worked.regranted _
    have same := (tracked.woken_same .detect).trans worked.same
    have woke := State.woken_regranted .detect after
    rw [seq] at woke
    exact ⟨same.channels, same.locks, same.line.trans line, same.delivery.trans delivery, same.handler.trans handler,
      same.resetHeld.trans held, same.pending.trans pending, (worked.ids.trans ids).trans (by rw [ops]),
      (worked.nextId.trans nextId).trans (by rw [ops]), woke⟩

end Sys2Proof.Machine
end

section
/-! The order in which a grant pass serves the waiting jobs: what a blocked job holds back, and which pass counts a pass
raises (R42, R47, R49, R50). -/

namespace Sys2Proof.Machine

/-- Of two marked jobs, the younger is not granted where the older one blocks: not granted itself, with the limiting
pass count (R47, R50). -/
def HoldsBack (older younger : Job × Bool) : Prop :=
  older.2 = false → Config.passLimit ≤ older.1.passCount → younger.2 = false

/-- A walk stops at the first blocked job, so what it marks behind any blocked job is not granted. -/
theorem grantWalk_holdsBack (watch : Bool) (js : List Job) (res : Resources) :
    (grantWalk watch js res).1.Pairwise HoldsBack := by
  induction js generalizing res with
  | nil => exact .nil
  | cons j js ih =>
    unfold grantWalk
    split
    · exact .cons (fun _ _ passed _ => nomatch passed) (ih _)
    · split
      · next below => exact .cons (fun _ _ _ blocked => absurd blocked (Nat.not_le_of_lt below)) (ih _)
      · refine .cons (fun y hy _ _ => ?_) (List.pairwise_map.mpr (List.pairwise_of_forall fun _ _ _ _ => rfl))
        obtain ⟨k, -, rfl⟩ := List.mem_map.mp hy
        rfl

/-- Settles O44: the jobs that a walk marks hold each other back, pair by pair. -/
theorem blockedJobStopsYounger : Obligations.BlockedJobStopsYounger := by
  intro watch js res i k j q granted older blocked before younger
  obtain ⟨hi, atI⟩ := List.getElem?_eq_some_iff.mp older
  obtain ⟨hk, atK⟩ := List.getElem?_eq_some_iff.mp younger
  have held := List.pairwise_iff_getElem.mp (grantWalk_holdsBack watch js res) i k hi hk before
  rw [atI, atK] at held
  exact held rfl blocked

/-- Whether a walk granted any job. -/
theorem raisePassCounts_granted (marks : List (Job × Bool)) :
    (raisePassCounts marks).2 = marks.any fun x => x.2 := by
  induction marks with
  | nil => rfl
  | cons x xs ih =>
    obtain ⟨j, granted⟩ := x
    unfold raisePassCounts
    rw [List.any_cons, ← ih]
    cases granted with
    | true => rfl
    | false => cases h : (raisePassCounts xs).2 <;> simp [h]

/-- A marked job, with its place among the marks, as it waits after the pass: raised if a job behind it was granted
(R49). -/
def afterPass (marks : List (Job × Bool)) (x : (Job × Bool) × Nat) : Job :=
  if (marks.drop (x.2 + 1)).any fun y => y.2 then { x.1.1 with passCount := x.1.1.passCount + 1 } else x.1.1

/-- What a pass makes of a job is decided by the marks behind it alone. -/
theorem afterPass_cons (m : Job × Bool) (marks : List (Job × Bool)) :
    afterPass (m :: marks) ∘ Prod.map id (· + 1) = afterPass marks := rfl

/-- The jobs that stay waiting, in their order, each raised once if a job behind it was granted (R49). -/
theorem raisePassCounts_waiting (marks : List (Job × Bool)) :
    (raisePassCounts marks).1 = (marks.zipIdx.filter fun x => !x.1.2).map (afterPass marks) := by
  induction marks with
  | nil => rfl
  | cons x xs ih =>
    obtain ⟨j, granted⟩ := x
    have behind : ((xs.zipIdx.map (Prod.map id (· + 1))).filter fun x => !x.1.2).map (afterPass ((j, granted) :: xs)) =
        (raisePassCounts xs).1 := by
      rw [List.filter_map, List.map_map, afterPass_cons, ih]
      rfl
    rw [List.zipIdx_cons']
    cases granted with
    | true => exact behind.symm
    | false =>
      have own : afterPass ((j, false) :: xs) ((j, false), 0) =
          if xs.any fun y => y.2 then { j with passCount := j.passCount + 1 } else j := rfl
      rw [List.filter_cons_of_pos rfl, List.map_cons, behind, own, ← raisePassCounts_granted, raisePassCounts]
      cases (raisePassCounts xs).2 <;> rfl

/-- Settles O45: the walk keeps the jobs in their order, and the pass raises them as the marks say. -/
theorem passCountsRaisedOnce : Obligations.PassCountsRaisedOnce :=
  fun _ => ⟨grantWalk_jobs _ _ _, raisePassCounts_waiting _⟩

end Sys2Proof.Machine
end

section
/-! The issue rules of the two producers: which operation gets a free slot and what its issue does, which entry the
sequencer can issue, and the soundness of both after every step (R42, R43, R69, R128, R129). -/

namespace Sys2Proof.Machine

/-! ### What a producer issues (R42, R69, R129) -/

theorem State.issueSample_eq (s : State) {o : Operation} {e : OpEntry} (current : o.entries[o.current]? = some e) :
    s.issueSample o =
      State.enterJob (.op o.opId o.current) e.channel
        { s with ops := s.ops.update { o with outstanding := true, started := true } } := by
  have current : o.currentEntry = some e := current
  unfold State.issueSample
  rw [current]

theorem OpEngine.update_eq (o : Operation) (e : OpEngine) :
    e.update o = { e with table := e.table.map fun x => if x.opId = o.opId then o else x } := by
  simp only [OpEngine.update, beq_iff_eq]

/-! ### The oldest operation that needs a job (R128) -/

/-- The engine serves an operation exactly when a slot is free and it is the first of the table that needs a job. -/
theorem State.nextOperation_iff (s : State) (o : Operation) :
    s.nextOperation = some o ↔ s.opWaiting < Config.opSlots ∧
      ∃ older younger, s.ops.table = older ++ o :: younger ∧ o.needsJob = true ∧ ∀ x ∈ older, x.needsJob = false := by
  unfold State.nextOperation
  split
  · next free =>
    simp [free, List.find?_eq_some_iff_append, and_left_comm]
  · next full => simp [full]

/-- Each issue of a sample leaves one operation fewer in need of a job. -/
theorem State.issueSample_needs {s : State} {o : Operation} (next : s.nextOperation = some o) :
    (s.issueSample o).ops.table.countP Operation.needsJob < s.ops.table.countP Operation.needsJob := by
  obtain ⟨-, mem, needs⟩ := State.nextOperation_some next
  have less := State.issueSample_work mem needs
  unfold State.work at less
  rw [State.issueSample_seq] at less
  exact Nat.lt_of_add_lt_add_left less

/-- A filling with enough actions for every operation in need leaves no slot that one of them could take. -/
theorem State.nextOperation_fillFor {n : Nat} {s : State} (enough : s.ops.table.countP Operation.needsJob ≤ n) :
    (s.fillFor n).nextOperation = none := by
  induction n generalizing s with
  | zero =>
    cases next : s.nextOperation with
    | none => exact next
    | some o => exact absurd (State.issueSample_needs next) (by omega)
  | succ n ih =>
    unfold State.fillFor
    cases next : s.nextOperation with
    | none => exact next
    | some o => exact ih (Nat.le_of_lt_succ ((State.issueSample_needs next).trans_le enough))

theorem State.nextOperation_fillPartition (s : State) : s.fillPartition.nextOperation = none :=
  State.nextOperation_fillFor List.countP_le_length

/-- Settles O58: soundness from the sound state that a step reaches, then the engine's choice, its issue, the filling of
its partition, and its part in a drive. -/
theorem operationsSoundKept : Obligations.OperationsSoundKept := by
  refine ⟨fun s t sound ht => ?_, fun s o => ?_, fun s o e current => ?_, fun s n => ⟨fun o next => ?_, fun rests => ?_⟩,
    State.nextOperation_fillPartition, fun s n arrived => ⟨fun o action => ?_, fun e o action => ?_⟩⟩
  · have sound := sound.step ht
    exact ⟨sound.opsFit, sound.currentPending, sound.talliesFit, sound.calibrationsSound, sound.opJobsSound⟩
  · simp only [← Operation.needsJob_iff, Bool.not_eq_true, ← List.countP_eq_length_filter]
    exact s.nextOperation_iff o
  · rw [s.issueSample_eq current, OpEngine.update_eq]
    rfl
  · rw [State.fillFor, next]
  · cases n with
    | zero => rfl
    | succ n => rw [State.fillFor, rests]
  · exact ⟨State.producerStep_isNext action, by rw [State.driveFor, action]⟩
  · obtain ⟨-, next⟩ := State.producerStep_isNext action
    refine ⟨next, ?_⟩
    rw [State.driveFor, action]
    dsimp only
    split
    · exact .inl rfl
    · exact .inr rfl

/-! ### The entry that the sequencer can issue (R69) -/

theorem Sequencer.atPosition_iff (q : Sequencer) (e : ScanEntry) :
    q.atPosition = some e ↔ q.inRound = true ∧ q.list[q.issuePos]? = some e := by
  unfold Sequencer.atPosition
  split
  · next going => simp [going]
  · next between => simp [between]

theorem State.nextScan_iff (s : State) (e : ScanEntry) :
    s.nextScan = some e ↔
      s.seq.atPosition = some e ∧ s.seq.issuePos ∈ s.seq.eligible ∧ s.scannable e.channel = true ∧
        s.scanWaiting < Config.scanSlots := by
  unfold State.nextScan
  cases here : s.seq.atPosition with
  | none => simp
  | some d =>
    have ready : (!s.seq.dropped && s.scannable d.channel && s.scanSlotFree) = true ↔
        s.seq.issuePos ∈ s.seq.eligible ∧ s.scannable d.channel = true ∧ s.scanWaiting < Config.scanSlots := by
      simp [Sequencer.dropped, State.scanSlotFree, and_assoc]
    simp only [Option.ite_none_right_eq_some, Option.some.injEq, ready]
    constructor
    · rintro ⟨can, rfl⟩
      exact ⟨rfl, can⟩
    · rintro ⟨rfl, can⟩
      exact ⟨can, rfl⟩

/-- Settles O59: soundness from the sound state that a step reaches, then the entry that the sequencer can issue, its
issue, and its part in a drive. -/
theorem producersSoundKept : Obligations.ProducersSoundKept := by
  refine ⟨fun s t sound ht => ?_, fun s e => ?_, fun _ _ => rfl, fun s n arrived e action => ?_⟩
  · have sound := sound.step ht
    exact ⟨sound.sequencerSound, sound.scanJobsSound, sound.watchSound, sound.producersRest⟩
  · rw [s.nextScan_iff, Sequencer.atPosition_iff, ← List.countP_eq_length_filter]
    simp [State.scannable, State.scanWaiting, and_assoc]
  · exact ⟨State.producerStep_isNext action, by rw [State.driveFor, action]⟩

end Sys2Proof.Machine
end

section
/-! A run that begins, from any state: the first round of a paced run, of a SINGLE run and after a wake, and the round
that the round timer begins (R61, R63, R65 to R69, R71, R72, R75, R76). -/

namespace Sys2Proof.Machine

/-! ### What the begin of a run leaves (R61, R63, R66, R68) -/

/-- The sequencer `q` after a run of the given timer has begun from it: the fields that the issue of the first round
reaches are those of `after`. -/
def Sequencer.begun (timer : Option Timer) (q after : Sequencer) : Sequencer :=
  { q with
    mode := after.mode, round := nextRound q.round, inRound := after.inRound, timer := timer, heldStart := false
    overrunReported := false, issuePos := after.issuePos, outstanding := after.outstanding, eligible := after.eligible }

/-- `t` is `s` after a run has begun in a mode, from the sequencer `q`, and the producers have issued its first round. -/
structure State.RunBegan (q : Sequencer) (mode : SeqMode) (timer : Option Timer) (s t : State) : Prop where
  ids : t.ops.table.map Operation.opId = s.ops.table.map Operation.opId
  nextId : t.ops.nextId = s.ops.nextId
  seq : t.seq = q.begun timer t.seq
  began : s.BeganRound mode t
  scanJobs : t.ScanJobsOfRound

/-- Which entries are due and eligible in a round is a matter of the scan list and the channels. -/
theorem State.dueAndEligible_congr {s v : State} (channels : v.channels = s.channels) (list : v.seq.list = s.seq.list) :
    v.DueAndEligible = s.DueAndEligible := by
  unfold State.DueAndEligible
  rw [channels, list]

/-- A run begun from a state that differs from an earlier one in its jobs, records and run alone. -/
theorem State.RunBegan.before {q : Sequencer} {mode : SeqMode} {timer : Option Timer} {s v t : State}
    (h : v.RunBegan q mode timer t) (channels : v.channels = s.channels) (list : v.seq.list = s.seq.list)
    (ids : v.ops.table.map Operation.opId = s.ops.table.map Operation.opId) (nextId : v.ops.nextId = s.ops.nextId) :
    s.RunBegan q mode timer t where
  ids := h.ids.trans ids
  nextId := h.nextId.trans nextId
  seq := h.seq
  began := by
    have began := h.began
    unfold State.BeganRound at began ⊢
    rwa [State.dueAndEligible_congr channels list, list] at began
  scanJobs := h.scanJobs

/-- The fields of the sequencer that the begin of a run sets and those that it keeps (R61, R63, R66, R68). -/
theorem State.RunBegan.seq_fields {q : Sequencer} {mode : SeqMode} {timer : Option Timer} {s t : State}
    (h : s.RunBegan q mode timer t) :
    t.seq.round = (q.round + 1) % 65536 ∧ t.seq.timer = timer ∧ t.seq.overrunReported = false ∧
      t.seq.heldStart = false ∧ t.seq.list = q.list ∧ t.seq.runPeriod = q.runPeriod ∧
      t.seq.watchPeriod = q.watchPeriod ∧ t.seq.overruns = q.overruns := by
  rw [h.seq]
  exact ⟨rfl, rfl, rfl, rfl, rfl, rfl, rfl, rfl⟩

/-- With no scan job from before, a drive that does not begin another round leaves scan jobs of its round alone. -/
theorem State.scanJobsOfRound_drive {b : State} (held : b.seq.heldStart = false)
    (round : b.drive.seq.round = b.seq.round) (none : ∀ j ∈ b.jobs, j.isScan = false) : b.drive.ScanJobsOfRound := by
  have ofOp (j : Job) (op : j.isOp = true) (e n : Nat) (named : j.origin = .scan e n) : n = b.seq.round := by
    obtain ⟨id, entry, origin⟩ := (Job.isOp_iff j).mp op
    rw [origin] at named
    cases named
  unfold State.ScanJobsOfRound
  rw [round]
  refine State.drive_forall_jobs held (Q := fun j => ∀ e n, j.origin = .scan e n → n = b.seq.round) (fun _ => Iff.rfl)
    ofOp (fun _ j e origin e' n named => ?_) (fun j hj => ofOp j (Job.isOp_of_not_isScan (none j hj)))
  rw [origin] at named
  cases named
  rfl

/-! ### Paced runs (R63, R66) -/

theorem State.runBegun_fresh {mode : SeqMode} (paced : mode = .running ∨ mode = .watch) (period : Nat) (s : State) :
    (s.runBegun mode period).seq.Fresh := ⟨rfl, rfl, rfl, rfl, paced⟩

/-- The issue of a round reaches its sub-state, position and entries alone. -/
theorem State.Ran.seq {b t : State} (h : b.Ran t) :
    t.seq =
      { b.seq with
        inRound := t.seq.inRound, issuePos := t.seq.issuePos, outstanding := t.seq.outstanding
        eligible := t.seq.eligible } := by
  rcases h with h | ⟨-, -, seq, -⟩
  · rw [h.seq]
  · rw [seq]
    rfl

/-- A paced run begins where no scan job is left from before. -/
theorem State.startPaced_began {mode : SeqMode} (paced : mode = .running ∨ mode = .watch) (period : Nat) {s : State}
    (none : ∀ j ∈ s.jobs, j.isScan = false) :
    s.RunBegan s.seq mode (some (Timer.start period)) (s.startPaced mode period) ∧
      (s.startPaced mode period).seq.mode = mode ∧ (s.startPaced mode period).notices = s.notices := by
  have fresh := s.runBegun_fresh paced period
  have ran : (s.runBegun mode period).Ran (s.startPaced mode period) := State.Ran.drive (.inl (.refl _)) fresh
  have worked : (s.runBegun mode period).Worked (s.startPaced mode period) := State.Worked.drive _
  obtain ⟨mode', round, -⟩ := ran.seq_fields
  refine ⟨⟨worked.ids, worked.nextId, ?_, ?_, ?_⟩, mode', ran.notices⟩
  · have seq := ran.seq
    rw [State.runBegun_seq] at seq
    rw [seq]
    rfl
  · exact ran.began fresh (State.drive_rests _) rfl (fun i => (s.runBegun_eligible mode period i).1)
      fun i => (s.runBegun_eligible mode period i).2
  · exact State.scanJobsOfRound_drive rfl round none

/-- A paced run begins from a sequencer of the same scan list, after the round in progress has been abandoned (R63, R65,
R66). -/
theorem State.startPaced_abandoned {mode : SeqMode} (paced : mode = .running ∨ mode = .watch) (period : Nat) (s : State)
    {q : Sequencer} (list : q.list = s.seq.list) :
    s.RunBegan q mode (some (Timer.start period)) (State.startPaced mode period { s.abandon with seq := q }) ∧
      (State.startPaced mode period { s.abandon with seq := q }).seq.mode = mode ∧
      (State.startPaced mode period { s.abandon with seq := q }).notices = s.notices := by
  obtain ⟨notices, ids, nextId, none⟩ := s.abandon_parts
  obtain ⟨began, mode', notices'⟩ := State.startPaced_began (s := { s.abandon with seq := q }) paced period none
  exact ⟨began.before s.abandon_same.channels list ids nextId, mode', notices'.trans notices⟩

/-- A wake out of WATCH begins a RUNNING run (R65, R66, R68, R76). -/
theorem State.wake_began (reason : WakeReason) {s : State} (watch : s.seq.mode = .watch) :
    s.RunBegan s.seq .running (some (Timer.start s.seq.runPeriod)) (s.wake reason) ∧
      (s.wake reason).seq.mode = .running ∧
      (s.wake reason).notices = (s.notices.arrive (.scan (.woke reason) s.seq.round)).1 := by
  have woken : s.wake reason = State.startPaced .running s.seq.runPeriod
      { (s.addRecord (.scan (.woke reason) s.seq.round)).abandon with seq := s.seq.abandoned } := by
    rw [s.wake_eq reason watch, State.woken, ← State.startPaced_eq, ← s.wakeAbandoned_seq reason]
    rfl
  obtain ⟨began, mode, notices⟩ := State.startPaced_abandoned (.inl rfl) s.seq.runPeriod
    (s.addRecord (.scan (.woke reason) s.seq.round)) (q := s.seq.abandoned) rfl
  rw [woken]
  exact ⟨{ began with }, mode, notices⟩

/-! ### Taking a request (R75, R171, R177) -/

/-- The end of STALLED, in one piece (R171). -/
theorem Delivery.endStalled_eq (d : Delivery) :
    d.endStalled =
      if d.state = .stalled then
        { d with
          state := if d.inFlight = [] then .opened else .resend
          passSet := d.inFlight, ackTimer := none, retries := 0 }
      else d := by
  unfold Delivery.endStalled Delivery.beginPass
  simp only [List.isEmpty_iff]

theorem Delivery.endStalled_state (d : Delivery) : d.endStalled.state ≠ .stalled := by
  rw [Delivery.endStalled_eq]
  split
  · dsimp only
    split <;> decide
  · assumption

section
variable (rest : List Frame) (s : State)

/-- Outside WATCH the taking of a request reaches the handler and the delivery alone (R76). -/
theorem State.beginTaking_outside (outside : s.seq.mode ≠ .watch) :
    s.beginTaking rest =
      { s with handler := { s.handler with requests := rest }, delivery := s.delivery.endStalled } := by
  unfold State.beginTaking
  rw [State.wake_outside .host { s with handler := { s.handler with requests := rest } } outside]
  rfl

/-- In WATCH the taking of a request begins a RUNNING run (R75, R76). -/
theorem State.beginTaking_began (watch : s.seq.mode = .watch) :
    s.RunBegan s.seq .running (some (Timer.start s.seq.runPeriod)) (s.beginTaking rest) ∧
      (s.beginTaking rest).seq.mode = .running ∧
      (s.beginTaking rest).notices = (s.notices.arrive (.scan (.woke .host) s.seq.round)).1 := by
  obtain ⟨began, mode, notices⟩ :=
    State.wake_began .host (s := { s with handler := { s.handler with requests := rest } }) watch
  exact ⟨{ began with }, mode, notices⟩

/-- What the taking of a request leaves of the sequencer and of the operations, in every mode. -/
theorem State.beginTaking_keeps :
    (s.beginTaking rest).seq.mode ≠ .watch ∧ (s.beginTaking rest).seq.list = s.seq.list ∧
      (s.beginTaking rest).seq.runPeriod = s.seq.runPeriod ∧
      (s.beginTaking rest).seq.watchPeriod = s.seq.watchPeriod ∧
      (s.beginTaking rest).seq.overruns = s.seq.overruns ∧
      (s.beginTaking rest).ops.table.map Operation.opId = s.ops.table.map Operation.opId ∧
      (s.beginTaking rest).ops.nextId = s.ops.nextId := by
  by_cases watch : s.seq.mode = .watch
  · obtain ⟨began, mode, -⟩ := s.beginTaking_began rest watch
    obtain ⟨-, -, -, -, list, runPeriod, watchPeriod, overruns⟩ := began.seq_fields
    exact ⟨by rw [mode]; decide, list, runPeriod, watchPeriod, overruns, began.ids, began.nextId⟩
  · rw [s.beginTaking_outside rest watch]
    exact ⟨watch, rfl, rfl, rfl, rfl, rfl, rfl⟩

end

/-- Settles O15: the wake of the taking begins the run, and the end of STALLED reaches the delivery alone. -/
theorem takingWakesAndEndsStall : Obligations.TakingWakesAndEndsStall := by
  intro rest s t
  obtain ⟨channels, locks, line, delivery, handler, held, pending⟩ := s.beginTaking_fields rest
  refine ⟨handler, delivery.trans s.delivery.endStalled_eq, channels, locks, line, held, pending,
    (s.beginTaking_keeps rest).1, ?_, fun outside => ⟨?_, fun r => s.wake_outside r outside⟩, fun watch => ?_⟩
  · show (s.beginTaking rest).delivery.state ≠ _
    rw [delivery]
    exact s.delivery.endStalled_state
  · rw [handler, delivery]
    exact s.beginTaking_outside rest outside
  · obtain ⟨began, mode, notices⟩ := s.beginTaking_began rest watch
    obtain ⟨round, timer, reported, held, list, runPeriod, watchPeriod, overruns⟩ := began.seq_fields
    exact ⟨mode, round, timer, reported, held, list, runPeriod, watchPeriod, overruns, notices, began.began,
      began.scanJobs, began.ids, began.nextId⟩

/-! ### The round timer (R66 to R68) -/

/-- Settles O38: an overrun in a round; between rounds a round begins, which the producers issue. -/
theorem roundTimerExpiry : Obligations.RoundTimerExpiry := by
  intro s
  refine ⟨fun stopped => ?_, fun x timer inRound => ?_, fun x timer between held mode => ?_⟩
  · show execRoundTimerExpiry s = _
    rw [execRoundTimerExpiry, stopped]
  · show execRoundTimerExpiry s = _
    rw [execRoundTimerExpiry, timer]
    dsimp only
    rw [if_pos inRound]
    unfold State.overrun
    dsimp only
    split <;> rfl
  · have taken : exec .roundTimerExpiry s = .next
        (State.drive (State.roundBegin { s with seq := { s.seq with timer := some (Timer.start x.period) } })) := by
      show execRoundTimerExpiry s = _
      rw [execRoundTimerExpiry, timer]
      dsimp only
      rw [if_neg (by simp [between])]
    generalize hb : State.roundBegin { s with seq := { s.seq with timer := some (Timer.start x.period) } } = b at taken
    have seq : b.seq = { s.seq with
        timer := some (Timer.start x.period), round := nextRound s.seq.round, inRound := true, issuePos := 0
        outstanding := [], eligible := b.seq.eligible } := by
      rw [← hb]
      rfl
    have same : s.SameBeyondJobs b := by
      rw [← hb]
      exact ⟨rfl, rfl, rfl, rfl, rfl, rfl, rfl⟩
    have fresh : b.seq.Fresh := by
      rw [seq]
      exact ⟨rfl, rfl, rfl, held, mode⟩
    have ran : b.Ran b.drive := State.Ran.drive (.inl (.refl b)) fresh
    have began : s.BeganRound s.seq.mode b.drive := by
      refine ran.began fresh (State.drive_rests _) (by rw [seq]) ?_ ?_
      · rw [← hb]
        exact State.mem_roundBegin_eligible _
      · rw [← hb]
        exact State.roundBegin_issuable _
    have fields := ran.seq_fields
    have notices : b.drive.notices = s.notices := ran.notices.trans (by rw [← hb]; rfl)
    have same := same.trans (State.drive_same b)
    rw [seq] at fields
    obtain ⟨mode', round, timer', reported, held', list, -, -, overruns⟩ := fields
    obtain ⟨inRound, entries, -⟩ := began
    exact ⟨_, taken, round, timer', mode', held'.trans held, overruns, reported, list, notices, same.channels,
      same.locks, same.line, same.delivery, same.handler, same.resetHeld, same.pending, inRound,
      fun going => ⟨(entries going).1, (entries going).2.1⟩⟩

end Sys2Proof.Machine
end

section
/-! The scan requests: SET_SCAN, SCAN_START and SCAN_STOP as the host sees them, with their refusals and their effects
(R57, R58, R61 to R66, R68, R69, R71, R72, R186). -/

namespace Sys2Proof.Machine

/-! ### Requests that refuse or have their effect (R177 to R180) -/

section
variable {s : State} {k : RequestKind} {f : Frame} {rest : List Frame} {refuse : List Byte → State → Option Refused}

theorem State.request_refused (h : s.TakesNew k f rest) (generic : k.generic f.payload = none)
    (effect : List Byte → State → State) {r : Refused} (refused : refuse f.payload (s.beginTaking rest) = some r) :
    s.request k (guarded refuse effect) = (s.beginTaking rest).replied f r.reply := by
  rw [State.request_new h, checked_of_generic _ _ generic]
  simp only [guarded, refused]

theorem State.request_accepted (h : s.TakesNew k f rest) (generic : k.generic f.payload = none)
    (effect : List Byte → State → State) (accepted : refuse f.payload (s.beginTaking rest) = none) :
    s.request k (guarded refuse effect) = State.replied f Reply.ok (effect f.payload (s.beginTaking rest)) := by
  rw [State.request_new h, checked_of_generic _ _ generic]
  simp only [guarded, accepted]

end

/-! ### SCAN_STOP (R64, R65) -/

/-- Settles O29: the round is abandoned, and the sequencer left in STOPPED. -/
theorem scanStopStops : Obligations.ScanStopStops := by
  intro f rest s h empty u
  obtain ⟨channels, locks, -⟩ := s.beginTaking_fields rest
  obtain ⟨-, -, -, -, -, ids, nextId⟩ := s.beginTaking_keeps rest
  obtain ⟨notices, ids', nextId', none⟩ := u.abandon_parts
  have same := u.abandon_same
  have generic : RequestKind.scanStop.generic f.payload = Option.none := by rw [empty]; rfl
  have taken : exec .scanStop s = .next (u.stopScan.replied f Reply.ok) := by
    show Host.Outcome.next (s.request .scanStop serveScanStop) = _
    rw [State.request_new h, checked_of_generic _ _ generic]
    rfl
  refine ⟨_, taken, State.answered ⟨same.line, same.delivery, same.handler, same.resetHeld, same.pending⟩, ?_⟩
  rw [State.replied_eq]
  refine ⟨?_, none, notices, same.channels.trans channels, same.locks.trans locks, ids'.trans ids,
    nextId'.trans nextId⟩
  show { u.abandon.seq with timer := Option.none, mode := .stopped } = _
  rw [u.abandon_seq]
  rfl

/-! ### The operands of SCAN_START (R62, R186) -/

theorem fieldAt_period (m p0 p1 : Byte) : fieldAt [m, p0, p1] 1 2 = p0.toNat + 256 * p1.toNat := by
  simp [fieldAt, numberLE]

/-- A mode code from 1 to 3 is one of three bytes. -/
theorem startCode_cases {m : Byte} (low : 1 ≤ m.toNat) (high : m.toNat ≤ 3) : m = 1#8 ∨ m = 2#8 ∨ m = 3#8 := by
  bv_omega

/-- A code that is not from 1 to 3 names no mode. -/
theorem startMode_none {n : Nat} (h : ¬ (1 ≤ n ∧ n ≤ 3)) : startMode n = none := by
  match n, h with
  | 0, _ => rfl
  | 1, h => exact absurd ⟨by decide, by decide⟩ h
  | 2, h => exact absurd ⟨by decide, by decide⟩ h
  | 3, h => exact absurd ⟨by decide, by decide⟩ h
  | n + 4, _ => rfl

/-- The checks of SCAN_START once the mode is named (R62 checks 2 to 7). -/
theorem State.refuseScanStart_named {s : State} {p : List Byte} {x : SeqMode} (named : startMode (byteAt p 0) = some x) :
    s.refuseScanStart p =
      if !periodOk x (fieldAt p 1 2) then some (Refused.badValue 1)
      else if s.seq.list.isEmpty then some Refused.wrongState
      else if x = .watch ∧ ¬ (s.seq.list.any ScanEntry.watch = true) then some Refused.wrongState
      else if x = .watch ∧ s.ops.table ≠ [] then some Refused.wrongState
      else none := by
  rw [State.refuseScanStart, named]

theorem scanStart_generic {f : Frame} {m p0 p1 : Byte} (payload : f.payload = [m, p0, p1]) :
    RequestKind.scanStart.generic f.payload = none := by
  rw [payload]
  rfl

/-- Settles O27: the checks in their order, on the state of the taking, whose list and table are those of the state
before. -/
theorem scanStartRefusals : Obligations.ScanStartRefusals := by
  intro f rest s m p0 p1 h payload u period named fits waits
  obtain ⟨-, list, -, -, -, ids, -⟩ := s.beginTaking_keeps rest
  have code : byteAt f.payload 0 = m.toNat := by rw [payload]; rfl
  have value : fieldAt f.payload 1 2 = period := by rw [payload, fieldAt_period]
  have refuse {r : Refused} (refused : u.refuseScanStart f.payload = some r) :
      exec .scanStart s = .next (u.replied f r.reply) :=
    congrArg Host.Outcome.next (State.request_refused h (scanStart_generic payload) _ refused)
  have mode (known : named) : ∃ x, startMode m.toNat = some x ∧ (periodOk x period = true ↔ fits) ∧
      (m = 3#8 → x = .watch) := by
    obtain rfl | rfl | rfl := startCode_cases known.1 known.2
    · exact ⟨.running, rfl, by simp [periodOk, fits], by decide⟩
    · exact ⟨.single, rfl, by simp [periodOk, fits], by decide⟩
    · exact ⟨.watch, rfl, by simp [periodOk, fits], fun _ => rfl⟩
  refine ⟨fun unknown => ?_, fun known misfit => ?_, fun known fit empty => ?_, fun known fit watch none => ?_,
    fun known fit watch busy => ?_⟩
  · refine refuse (r := Refused.badValue 0) ?_
    rw [State.refuseScanStart, code, startMode_none unknown]
  all_goals
    obtain ⟨x, start, ok, isWatch⟩ := mode known
    have checks := State.refuseScanStart_named (s := u) (code ▸ start)
    rw [value, list] at checks
  · refine refuse (r := Refused.badValue 1) ?_
    rw [checks, if_pos (by simp [Bool.eq_false_iff.mpr (mt ok.mp misfit)])]
  · refine refuse (r := Refused.wrongState) ?_
    rw [checks, if_neg (by simp [ok.mpr fit]), if_pos (by simp [empty])]
  · refine refuse (r := Refused.wrongState) ?_
    rw [checks, if_neg (by simp [ok.mpr fit])]
    split
    · rfl
    · rw [if_pos ⟨isWatch watch, by simpa using none⟩]
  · refine refuse (r := Refused.wrongState) ?_
    have held : u.ops.table ≠ [] := fun gone => busy (by
      rw [gone, List.map_nil, eq_comm, List.map_eq_nil_iff] at ids
      exact ids)
    rw [checks, if_neg (by simp [ok.mpr fit]), if_pos (c := x = .watch ∧ u.ops.table ≠ []) ⟨isWatch watch, held⟩,
      ite_self, ite_self]

end Sys2Proof.Machine
end

section
/-! SCAN_START accepted: the run begins in the mode named, and its first round is issued or, in a SINGLE run without an
entry due and eligible, over at once (R61 to R63, R65, R66, R68, R69, R71, R72). -/

namespace Sys2Proof.Machine

/-! ### The round of a SINGLE run (R71, R72) -/

/-- A round of a SINGLE run has just begun, and nothing of it is issued yet. -/
structure Sequencer.FreshOnce (q : Sequencer) : Prop where
  inRound : q.inRound = true
  issuePos : q.issuePos = 0
  outstanding : q.outstanding = []
  heldStart : q.heldStart = false
  mode : q.mode = .single

/-- `t` is `b` after its SINGLE round has been issued, in progress still or, where no entry could be issued, over. -/
def State.RanOnce (b t : State) : Prop :=
  b.Issued t ∨
    t.channels = b.channels ∧ t.notices = (b.notices.arrive (.scan .done b.seq.round)).1 ∧
      t.seq = { b.seq.ended with mode := .stopped } ∧ ∀ i, ¬ b.Issuable i

/-- A round whose issue began at the first entry and that is over had no entry that could be issued. -/
theorem State.Issued.none_issuable {b t : State} (h : b.Issued t) (start : b.seq.issuePos = 0)
    (done : t.seq.roundOver = true) (i : Nat) : ¬ b.Issuable i := by
  obtain ⟨-, issued, none⟩ := (Sequencer.roundOver_iff _).mp done
  intro can
  have ⟨_, e, entry, _⟩ := can
  rw [← h.list] at entry
  have inside : i < t.seq.issuePos := (List.getElem?_eq_some_iff.mp entry).1.trans_le issued
  have left := (h.outstanding i).mpr (.inr ⟨start ▸ Nat.zero_le i, inside, can⟩)
  rw [none] at left
  cases left

namespace State.RanOnce

variable {b t u : State}

theorem of_same (h : b.RanOnce t) (channels : u.channels = t.channels) (notices : u.notices = t.notices)
    (seq : u.seq = t.seq) : b.RanOnce u := by
  rcases h with h | ⟨channels', notices', seq', none⟩
  · exact .inl (h.of_same channels notices seq)
  · exact .inr ⟨channels.trans channels', notices.trans notices', seq.trans seq', none⟩

/-- A round still in progress has been issued so far. -/
theorem going (h : b.RanOnce t) (inRound : t.seq.inRound = true) : b.Issued t := by
  refine h.resolve_right fun ⟨_, _, seq, _⟩ => ?_
  rw [seq] at inRound
  cases inRound

theorem completeRound (h : b.RanOnce t) (fresh : b.seq.FreshOnce) (done : t.seq.roundOver = true) :
    b.RanOnce t.completeRound := by
  have h := h.going ((Sequencer.roundOver_iff _).mp done).1
  have mode : t.seq.mode = .single := by
    rw [h.seq]
    exact fresh.mode
  have round : t.seq.round = b.seq.round := by rw [h.seq]
  rw [State.completeRound_single done mode]
  refine .inr ⟨h.channels, ?_, ?_, fun i => h.none_issuable fresh.issuePos done i⟩
  · rw [← round, ← h.notices]
  · rw [h.seq]
    rfl

theorem drive (h : b.RanOnce t) (fresh : b.seq.FreshOnce) : b.RanOnce t.drive := by
  have here {v : State} {e : ScanEntry} (hv : b.RanOnce v) (at_ : v.seq.atPosition = some e) : b.Issued v :=
    hv.going (Sequencer.atPosition_some at_).1
  refine State.driveFor_keeps b.RanOnce (fun v hv done => hv.completeRound fresh done) (fun v _ hv due => ?_)
    (fun v e hv next => ?_) (fun v o hv _ => ?_) (fun _ hv => hv.of_same rfl rfl rfl) _ _ t h
  · obtain ⟨e, at_⟩ := State.skipDue_at due
    exact .inl ((here hv at_).passEntry due)
  · exact .inl ((here hv (State.nextScan_at next)).issueEntry next)
  · have same := (State.Issued.refl v).issueSample o
    exact hv.of_same same.channels same.notices (v.issueSample_seq o)

end State.RanOnce

/-- A state with its mode RUNNING and other records: neither is read in the issue of a round (R69). -/
def State.pacedWith (q : NoticeQueue) (s : State) : State :=
  { s with seq := { s.seq with mode := .running }, notices := q }

/-- The issue of a SINGLE round is that of a paced one, but for what its end does to the mode and the records. -/
theorem State.RanOnce.paced {b t : State} (h : b.RanOnce t) :
    (b.pacedWith b.notices).Ran (t.pacedWith b.notices) := by
  rcases h with h | ⟨channels, -, seq, none⟩
  · exact .inl { h with
      notices := rfl
      seq := congrArg (fun q : Sequencer => { q with mode := .running }) h.seq }
  · exact .inr ⟨channels, rfl, congrArg (fun q : Sequencer => { q with mode := .running }) seq, none⟩

theorem Sequencer.FreshOnce.paced {b : State} (fresh : b.seq.FreshOnce) : (b.pacedWith b.notices).seq.Fresh :=
  ⟨fresh.inRound, fresh.issuePos, fresh.outstanding, fresh.heldStart, .inl rfl⟩

/-- The issue of a SINGLE round reaches its mode, sub-state, position and entries alone. -/
theorem State.RanOnce.seq {b t : State} (h : b.RanOnce t) :
    t.seq =
      { b.seq with
        mode := t.seq.mode, inRound := t.seq.inRound, issuePos := t.seq.issuePos, outstanding := t.seq.outstanding
        eligible := t.seq.eligible } := by
  rcases h with h | ⟨-, -, seq, -⟩
  · rw [h.seq]
  · rw [seq]
    rfl

/-- What is left of a SINGLE round: it is in progress, or it was over at once, with SCAN DONE (R71, R72). -/
theorem State.RanOnce.outcome {b t : State} (h : b.RanOnce t) (fresh : b.seq.FreshOnce) :
    (t.seq.inRound = true ∧ t.seq.mode = .single ∧ t.notices = b.notices) ∨
      (t.seq.inRound = false ∧ t.seq.mode = .stopped ∧
        t.notices = (b.notices.arrive (.scan .done b.seq.round)).1) := by
  rcases h with h | ⟨-, notices, seq, -⟩
  · rw [h.seq]
    exact .inl ⟨fresh.inRound, fresh.mode, h.notices⟩
  · rw [seq]
    exact .inr ⟨rfl, rfl, notices⟩

theorem State.ProducersRest.paced {t : State} (h : t.ProducersRest) (q : NoticeQueue) :
    (t.pacedWith q).ProducersRest :=
  (State.producersRest_iff _).mpr (t.producersRest_iff.mp h)

/-- Once the producers have nothing to do, the SINGLE round that began is the one that the rules describe. -/
theorem State.RanOnce.began {b t : State} (h : b.RanOnce t) (fresh : b.seq.FreshOnce) (rests : t.ProducersRest)
    {s : State} (list : b.seq.list = s.seq.list) {mode : SeqMode}
    (eligible : ∀ i, i ∈ b.seq.eligible ↔ s.DueAndEligible mode b.seq.round i)
    (issuable : ∀ i, b.Issuable i ↔ s.DueAndEligible mode b.seq.round i) : s.BeganRound mode t :=
  State.Ran.began h.paced fresh.paced (rests.paced _) list eligible issuable

/-! ### The effects of SCAN_START (R63, R66) -/

theorem State.setSeq_same (q : Sequencer) (s : State) : s.SameBeyondJobs { s with seq := q } :=
  ⟨rfl, rfl, rfl, rfl, rfl, rfl, rfl⟩

theorem State.startScan_same (m : SeqMode) (period : Nat) (s : State) : s.SameBeyondJobs (s.startScan m period) := by
  refine s.abandon_same.trans ?_
  cases m with
  | stopped => exact .refl _
  | running => exact (State.setSeq_same _ _).trans (State.startPaced_same _ _ _)
  | watch => exact (State.setSeq_same _ _).trans (State.startPaced_same _ _ _)
  | single => exact (State.setSeq_same _ _).trans (State.drive_same _)

/-- SCAN_START into RUNNING stores the run period (R63). -/
theorem State.startScan_running (period : Nat) (s : State) :
    s.RunBegan { s.seq with runPeriod := period } .running (some (Timer.start period)) (s.startScan .running period) ∧
      (s.startScan .running period).seq.mode = .running ∧ (s.startScan .running period).notices = s.notices := by
  obtain ⟨began, mode, notices⟩ := State.startPaced_abandoned (.inl rfl) period s
    (q := { s.seq.abandoned with runPeriod := period }) rfl
  unfold State.startScan
  dsimp only
  rw [s.abandon_seq]
  exact ⟨{ began with }, mode, notices⟩

/-- SCAN_START into WATCH stores the watch period (R63). -/
theorem State.startScan_watch (period : Nat) (s : State) :
    s.RunBegan { s.seq with watchPeriod := period } .watch (some (Timer.start period)) (s.startScan .watch period) ∧
      (s.startScan .watch period).seq.mode = .watch ∧ (s.startScan .watch period).notices = s.notices := by
  obtain ⟨began, mode, notices⟩ := State.startPaced_abandoned (.inr rfl) period s
    (q := { s.seq.abandoned with watchPeriod := period }) rfl
  unfold State.startScan
  dsimp only
  rw [s.abandon_seq]
  exact ⟨{ began with }, mode, notices⟩

/-- The state in which SCAN_START has begun the round of a SINGLE run, before any of it is issued (R63, R66). -/
def State.onceBegun (s : State) : State :=
  State.roundBegin (State.beginRun .single { s.abandon with seq := { s.abandon.seq with timer := none } })

section
variable (s : State)

/-- The sequencer when a SINGLE run has begun, but for the eligible entries of its round. -/
theorem State.onceBegun_seq :
    s.onceBegun.seq =
      { s.seq.abandoned with
        mode := .single, round := nextRound s.seq.round, inRound := true, overrunReported := false, timer := none
        eligible := s.onceBegun.seq.eligible } := by
  rw [← s.abandon_seq]
  have seq := s.abandon_seq
  unfold State.onceBegun State.roundBegin State.beginRun
  rw [seq]
  rfl

theorem State.onceBegun_eligible (i : Nat) :
    (i ∈ s.onceBegun.seq.eligible ↔ s.DueAndEligible .single (nextRound s.seq.round) i) ∧
      (s.onceBegun.Issuable i ↔ s.DueAndEligible .single (nextRound s.seq.round) i) := by
  have due : s.abandon.DueAndEligible .single (nextRound s.abandon.seq.round) i ↔
      s.DueAndEligible .single (nextRound s.seq.round) i := by
    rw [State.dueAndEligible_congr s.abandon_same.channels (by rw [s.abandon_seq]; rfl), s.abandon_seq]
    rfl
  rw [← due]
  exact ⟨State.mem_roundBegin_eligible _ i, State.roundBegin_issuable _ i⟩

/-- SCAN_START into SINGLE: the round is in progress exactly when it has an entry due and eligible; else the run is over,
with SCAN DONE (R63, R66, R71, R72). -/
theorem State.startScan_single (period : Nat) :
    s.RunBegan s.seq .single none (s.startScan .single period) ∧
      (((s.startScan .single period).seq.inRound = true ∧ (s.startScan .single period).seq.mode = .single ∧
          (s.startScan .single period).notices = s.notices) ∨
        ((s.startScan .single period).seq.inRound = false ∧ (s.startScan .single period).seq.mode = .stopped ∧
          (s.startScan .single period).notices =
            (s.notices.arrive (.scan .done (s.startScan .single period).seq.round)).1)) := by
  have driven : s.startScan .single period = s.onceBegun.drive := rfl
  rw [driven]
  have seq := s.onceBegun_seq
  have fresh : s.onceBegun.seq.FreshOnce := by
    rw [seq]
    exact ⟨rfl, rfl, rfl, rfl, rfl⟩
  have ran : s.onceBegun.RanOnce s.onceBegun.drive := State.RanOnce.drive (.inl (.refl _)) fresh
  have round : s.onceBegun.drive.seq.round = s.onceBegun.seq.round := by rw [ran.seq]
  obtain ⟨notices, ids, nextId, none⟩ := s.abandon_parts
  have worked := State.Worked.drive s.onceBegun
  have outcome := ran.outcome fresh
  rw [← round, show s.onceBegun.notices = s.notices from notices] at outcome
  refine ⟨⟨worked.ids.trans ids, worked.nextId.trans nextId, ?_, ?_, ?_⟩, outcome⟩
  · have after := ran.seq
    rw [seq] at after
    rw [after]
    rfl
  · have next : s.onceBegun.seq.round = nextRound s.seq.round := by rw [seq]
    refine ran.began fresh (State.drive_rests _) (by rw [seq]; rfl) (fun i => ?_) (fun i => ?_)
    · rw [next]
      exact (s.onceBegun_eligible i).1
    · rw [next]
      exact (s.onceBegun_eligible i).2
  · exact State.scanJobsOfRound_drive fresh.heldStart round none

end

/-! ### SCAN_START (R62, R63) -/

/-- A SCAN_START that names a mode, with a period that fits it and a list to scan, is accepted outside WATCH, and in WATCH
with a watch entry and no operation (R62). -/
theorem exec_scanStart_accepted {s : State} {f : Frame} {rest : List Frame} {m p0 p1 : Byte} {x : SeqMode}
    (h : s.TakesNew .scanStart f rest) (payload : f.payload = [m, p0, p1]) (named : startMode m.toNat = some x)
    (fits : periodOk x (p0.toNat + 256 * p1.toNat) = true) (list : s.seq.list ≠ [])
    (watch : x = .watch → s.ops.table = [] ∧ ∃ e ∈ s.seq.list, e.watch = true) :
    exec .scanStart s =
      .next (State.replied f Reply.ok ((s.beginTaking rest).startScan x (p0.toNat + 256 * p1.toNat))) := by
  obtain ⟨-, list', -, -, -, ids, -⟩ := s.beginTaking_keeps rest
  have code : byteAt f.payload 0 = m.toNat := by rw [payload]; rfl
  have value : fieldAt f.payload 1 2 = p0.toNat + 256 * p1.toNat := by rw [payload, fieldAt_period]
  have accepted : (s.beginTaking rest).refuseScanStart f.payload = none := by
    rw [State.refuseScanStart_named (code ▸ named), value, list', if_neg (by simp [fits]), if_neg (by simpa using list),
      if_neg (by simpa using fun hx => (watch hx).2), if_neg]
    rintro ⟨hx, busy⟩
    rw [(watch hx).1, List.map_nil, List.map_eq_nil_iff] at ids
    exact busy ids
  have taken := State.request_accepted h (scanStart_generic payload)
    (fun p t => t.startScan ((startMode (byteAt p 0)).getD .stopped) (fieldAt p 1 2)) accepted
  rw [code, value, named] at taken
  exact congrArg Host.Outcome.next taken

theorem State.replied_seq (f : Frame) (r : Reply) (t : State) : (t.replied f r).seq = t.seq := by
  rw [State.replied_eq]

theorem State.replied_notices (f : Frame) (r : Reply) (t : State) : (t.replied f r).notices = t.notices := by
  rw [State.replied_eq]

/-- Settles O28: the run that begins in each of the three modes, on the state of the taking, and the reply. -/
theorem scanStartBeginsRun : Obligations.ScanStartBeginsRun := by
  intro f rest s m p0 p1 h payload list u period begun
  obtain ⟨channels, locks, -⟩ := s.beginTaking_fields rest
  obtain ⟨-, list', runPeriod, watchPeriod, overruns, ids, nextId⟩ := s.beginTaking_keeps rest
  have starts {x : SeqMode} {q : Sequencer} {timer : Option Timer} (named : startMode m.toNat = some x)
      (fits : periodOk x period = true) (watch : x = .watch → s.ops.table = [] ∧ ∃ e ∈ s.seq.list, e.watch = true)
      (run : u.RunBegan q x timer (u.startScan x period)) (sameList : q.list = u.seq.list)
      (sameRound : q.round = u.seq.round) (sameOverruns : q.overruns = u.seq.overruns) :
      begun ((u.startScan x period).replied f Reply.ok) ∧
        s.BeganRound x ((u.startScan x period).replied f Reply.ok) := by
    have same := u.startScan_same x period
    obtain ⟨round, -, reported, held, keptList, -, -, keptOverruns⟩ := run.seq_fields
    have began := run.before channels list' ids nextId
    refine ⟨⟨exec_scanStart_accepted h payload named fits list watch,
      State.answered ⟨same.line, same.delivery, same.handler, same.resetHeld, same.pending⟩, ?_⟩, ?_⟩
    · rw [State.replied_eq]
      exact ⟨same.channels.trans channels, same.locks.trans locks, keptList.trans (sameList.trans list'),
        round.trans (by rw [sameRound]), keptOverruns.trans (sameOverruns.trans overruns), held, reported,
        run.scanJobs⟩
    · rw [State.replied_eq]
      exact began.began
  refine ⟨fun code fits => ?_, fun code fits => ?_, fun code fits table watch => ?_⟩
  · subst code
    obtain ⟨run, mode, notices⟩ := u.startScan_running period
    obtain ⟨done, began⟩ := starts rfl (by simp [periodOk, fits]) nofun run rfl rfl rfl
    obtain ⟨-, timer, -, -, -, own, other, -⟩ := run.seq_fields
    refine ⟨_, done, began, ?_⟩
    rw [State.replied_seq, State.replied_notices]
    exact ⟨mode, timer, own, other.trans watchPeriod, notices⟩
  · subst code
    obtain ⟨run, outcome⟩ := u.startScan_single period
    obtain ⟨done, began⟩ := starts rfl (by simp [periodOk, fits]) nofun run rfl rfl rfl
    obtain ⟨-, timer, -, -, -, own, other, -⟩ := run.seq_fields
    have inRound := began.1
    refine ⟨_, done, began, ?_⟩
    rw [State.replied_seq] at inRound
    rw [State.replied_seq, State.replied_notices]
    refine ⟨timer, own.trans runPeriod, other.trans watchPeriod, fun due => ?_, fun none => ?_⟩
    · have going := inRound.mpr due
      obtain ⟨-, mode, notices⟩ := outcome.resolve_right fun ⟨ended, _⟩ => Bool.false_ne_true (ended.symm.trans going)
      exact ⟨mode, going, notices⟩
    · obtain ⟨ended, mode, notices⟩ := outcome.resolve_left fun ⟨going, _⟩ => none (inRound.mp going)
      exact ⟨mode, ended, notices⟩
  · subst code
    obtain ⟨run, mode, notices⟩ := u.startScan_watch period
    obtain ⟨done, began⟩ := starts rfl (by simp [periodOk, fits]) (fun _ => ⟨table, watch⟩) run rfl rfl rfl
    obtain ⟨-, timer, -, -, -, other, own, -⟩ := run.seq_fields
    refine ⟨_, done, began, ?_⟩
    rw [State.replied_seq, State.replied_notices]
    exact ⟨mode, timer, own, other.trans runPeriod, notices⟩

end Sys2Proof.Machine
end

section
/-! SET_SCAN: the entries that its payload spells, its refusals and its effect (R57, R58, R186). -/

namespace Sys2Proof.Machine

/-! ### The payload (R186) -/

/-- An entry of a SET_SCAN payload: its channel byte, its divider byte and its watch flag. -/
abbrev ScanOperand := Byte × Byte × Bool

/-- The bytes of an entry of a SET_SCAN payload (R186). -/
def ScanOperand.bytes (e : ScanOperand) : List Byte := [e.1, e.2.1, if e.2.2 then 1#8 else 0#8]

/-- Whether the channel and the divider of an entry lie in their ranges (R57, R58 step 3). -/
def ScanOperand.Fits (e : ScanOperand) : Prop := e.1.toNat ≤ 23 ∧ 1 ≤ e.2.1.toNat ∧ e.2.1.toNat ≤ 16

/-- From entry `i` on, the payload spells the given entries. -/
def SpellsFrom (p : List Byte) (i : Nat) (es : List ScanOperand) : Prop :=
  ∃ before, before.length = 1 + 3 * i ∧ p = before ++ (es.map ScanOperand.bytes).flatten

theorem byteAt_append {before after : List Byte} {a k : Nat} (length : before.length = a) :
    byteAt (before ++ after) (a + k) = byteAt after k := by
  subst length
  simp [byteAt, List.getElem?_append_right]

/-- The bytes of the first entry spelled stand at its place, and the others are spelled behind it. -/
theorem SpellsFrom.cons {p : List Byte} {i : Nat} {e : ScanOperand} {es : List ScanOperand}
    (h : SpellsFrom p i (e :: es)) :
    byteAt p (1 + 3 * i) = e.1.toNat ∧ byteAt p (2 + 3 * i) = e.2.1.toNat ∧ byteAt p (3 + 3 * i) = e.2.2.toNat ∧
      SpellsFrom p (i + 1) es := by
  obtain ⟨before, length, rfl⟩ := h
  have flag : (if e.2.2 then 1#8 else 0#8 : Byte).toNat = e.2.2.toNat := by cases e.2.2 <;> rfl
  refine ⟨byteAt_append (k := 0) length, ?_, ?_, before ++ e.bytes, ?_, ?_⟩
  · rw [show 2 + 3 * i = 1 + 3 * i + 1 by omega]
    exact byteAt_append length
  · rw [show 3 + 3 * i = 1 + 3 * i + 2 by omega, ← flag]
    exact byteAt_append length
  · simp only [List.length_append, length, ScanOperand.bytes, List.length_cons, List.length_nil]
    omega
  · rw [List.map_cons, List.flatten_cons, List.append_assoc]

/-- No flags byte of a spelled entry has an unassigned bit set (R179). -/
theorem unusedScanBits_spelled {p : List Byte} {es : List ScanOperand} {i : Nat} (h : SpellsFrom p i es) :
    unusedScanBits p es.length i = none := by
  induction es generalizing i with
  | nil => rfl
  | cons e es ih =>
    obtain ⟨-, -, flag, tail⟩ := h.cons
    have assigned := e.2.2.toNat_le
    rw [List.length_cons, unusedScanBits, show 1 + 3 * i + 2 = 3 + 3 * i by omega, flag, if_neg (by omega)]
    exact ih tail

/-- An entry that fits is passed by the check of the fields. -/
theorem badScanField_fits {p : List Byte} {e : ScanOperand} {es : List ScanOperand} {i : Nat}
    (h : SpellsFrom p i (e :: es)) (fits : e.Fits) (n : Nat) : badScanField p (n + 1) i = badScanField p n (i + 1) := by
  obtain ⟨channel, divider, -⟩ := h.cons
  obtain ⟨known, low, high⟩ := fits
  rw [badScanField, channel, divider, if_neg (by omega), if_pos (by simp [inRange, low, high])]

/-- The first entry with a field outside its range is found, the channel before the divider (R58 step 3). -/
theorem badScanField_first {p : List Byte} {before after : List ScanOperand} {e : ScanOperand} {i : Nat}
    (h : SpellsFrom p i (before ++ e :: after)) (fit : ∀ x ∈ before, x.Fits) (misfit : ¬ e.Fits) :
    badScanField p (before ++ e :: after).length i =
      some (3 * (i + before.length) + if e.1.toNat ≤ 23 then 2 else 1) := by
  induction before generalizing i with
  | nil =>
    obtain ⟨channel, divider, -⟩ := h.cons
    rw [List.nil_append, List.length_cons, badScanField, channel, divider]
    by_cases known : e.1.toNat ≤ 23
    · have outside : ¬ inRange 1 16 e.2.1.toNat = true := by
        simpa [inRange, ScanOperand.Fits, known] using misfit
      rw [if_neg (by omega), if_neg outside, if_pos known]
      exact congrArg some (Nat.add_comm 2 (3 * i))
    · rw [if_pos (by omega), if_neg known]
      exact congrArg some (Nat.add_comm 1 (3 * i))
  | cons x before ih =>
    obtain ⟨fits, fit⟩ := List.forall_mem_cons.mp fit
    obtain ⟨-, -, -, tail⟩ := h.cons
    rw [List.cons_append, List.length_cons, badScanField_fits h fits, ih tail fit, List.length_cons]
    congr 2
    omega

theorem badScanField_spelled {p : List Byte} {es : List ScanOperand} {i : Nat} (h : SpellsFrom p i es)
    (fit : ∀ e ∈ es, e.Fits) : badScanField p es.length i = none := by
  induction es generalizing i with
  | nil => rfl
  | cons e es ih =>
    obtain ⟨fits, fit⟩ := List.forall_mem_cons.mp fit
    obtain ⟨-, -, -, tail⟩ := h.cons
    rw [List.length_cons, badScanField_fits h fits]
    exact ih tail fit

/-- The entries read from a payload are those it spells. -/
theorem scanEntries_spelled {p : List Byte} {es : List ScanOperand} {i : Nat} (h : SpellsFrom p i es)
    (fit : ∀ e ∈ es, e.Fits) :
    (scanEntries p es.length i).map (fun x => (x.channel.val, x.divider, x.watch)) =
      es.map fun e => (e.1.toNat, e.2.1.toNat, e.2.2) := by
  induction es generalizing i with
  | nil => rfl
  | cons e es ih =>
    obtain ⟨channel, divider, flag, tail⟩ := h.cons
    obtain ⟨⟨known, -⟩, fit⟩ := List.forall_mem_cons.mp fit
    have number : (channelAt p (1 + 3 * i)).val = e.1.toNat := by
      rw [channelAt, channel, val_finOr (by omega)]
    have watch : (byteAt p (3 + 3 * i) % 2 == 1) = e.2.2 := by
      rw [flag]
      cases e.2.2 <;> rfl
    rw [List.length_cons, scanEntries, List.map_cons, List.map_cons, number, divider, watch, ih tail fit]

/-- The whole payload of SET_SCAN (R186). -/
def setScanBytes (es : List ScanOperand) : List Byte :=
  BitVec.ofNat 8 es.length :: (es.map ScanOperand.bytes).flatten

section
variable {es : List ScanOperand}

theorem setScanBytes_spells : SpellsFrom (setScanBytes es) 0 es := ⟨[BitVec.ofNat 8 es.length], rfl, rfl⟩

theorem setScanBytes_count (few : es.length ≤ 42) : byteAt (setScanBytes es) 0 = es.length := by
  show (BitVec.ofNat 8 es.length).toNat = _
  rw [BitVec.toNat_ofNat]
  omega

theorem setScanBytes_generic (few : es.length ≤ 42) : RequestKind.setScan.generic (setScanBytes es) = none := by
  have count := setScanBytes_count few
  have length : (setScanBytes es).length = 1 + 3 * es.length := by
    simp [setScanBytes, List.length_flatten, Function.comp_def, ScanOperand.bytes]
    omega
  refine RequestKind.generic_none ?_ ?_
  · simp [RequestKind.lengthOk, count, length]
  · show unusedScanBits _ (byteAt _ 0) 0 = none
    rw [count]
    exact unusedScanBits_spelled setScanBytes_spells

end

/-! ### The command (R57, R58) -/

/-- The taking of a request neither enters nor leaves STOPPED (R76). -/
theorem State.beginTaking_stopped (rest : List Frame) (s : State) :
    (s.beginTaking rest).seq.mode = .stopped ↔ s.seq.mode = .stopped := by
  by_cases watch : s.seq.mode = .watch
  · obtain ⟨-, mode, -⟩ := s.beginTaking_began rest watch
    rw [mode, watch]
    decide
  · rw [s.beginTaking_outside rest watch]

/-- Settles O26: the checks in their order, and the list that the payload spells. -/
theorem setScanReplacesList : Obligations.SetScanReplacesList := by
  intro f rest s es h few payload u fits
  have payload : f.payload = setScanBytes es := payload
  have count := setScanBytes_count few
  have spells := setScanBytes_spells (es := es)
  have generic : RequestKind.setScan.generic f.payload = none := by
    rw [payload]
    exact setScanBytes_generic few
  have stopped : u.seq.mode = .stopped ↔ s.seq.mode = .stopped := s.beginTaking_stopped rest
  have refuse {r : Refused} (refused : u.refuseSetScan (setScanBytes es) = some r) :
      exec .setScan s = .next (u.replied f r.reply) :=
    congrArg Host.Outcome.next (State.request_refused h generic _ (by rw [payload]; exact refused))
  have checks (mode : s.seq.mode = .stopped) (short : es.length ≤ 32) :
      u.refuseSetScan (setScanBytes es) = (badScanField (setScanBytes es) es.length 0).map Refused.badValue := by
    rw [State.refuseSetScan, count, if_neg (not_not.mpr (stopped.mpr mode)), if_neg (by omega)]
  refine ⟨fun mode => ?_, fun mode long => ?_, fun mode short before e after split fit misfit => ?_,
    fun mode short fit => ?_⟩
  · exact refuse (if_pos (mt stopped.mp mode))
  · refine refuse (r := Refused.badValue 0) ?_
    rw [State.refuseSetScan, count, if_neg (not_not.mpr (stopped.mpr mode)), if_pos (by omega)]
  · have first := badScanField_first (split ▸ spells) fit misfit
    rw [← split, Nat.zero_add] at first
    exact refuse (r := Refused.badValue _) ((checks mode short).trans (by rw [first]; rfl))
  · refine ⟨scanEntries (setScanBytes es) es.length 0, scanEntries_spelled spells fit, ?_⟩
    have accepted : u.refuseSetScan (setScanBytes es) = none := by
      rw [checks mode short, badScanField_spelled spells fit]
      rfl
    have taken := State.request_accepted h generic
      (fun p t => { t with seq := { t.seq with list := scanEntries p (byteAt p 0) 0 } }) (payload ▸ accepted)
    rw [payload, count] at taken
    exact congrArg Host.Outcome.next taken

end Sys2Proof.Machine
end

section
/-! The status picture: the GET_STATUS reply is fields one after another, each of which fits its bytes in a sound state
(R40, R78, R182, R187, R188). -/

namespace Sys2Proof.Machine

/-! ### Busy units and held cells (R23, R40, R44) -/

/-- The units that are busy are those that run a job (R40). -/
theorem Resources.unitsBusy_eq (res : Resources) : res.unitsBusy = res.running.length := by
  have units : res.units.toList = ([0, 1, 2, 3] : List UnitId).map fun u => res.units[u] := by
    apply List.ext_getElem
    · simp
    · intro i _ hi
      simp only [List.length_map, List.length_cons, List.length_nil] at hi
      interval_cases i <;> simp
  unfold Resources.unitsBusy Resources.running
  rw [units, List.countP_map, List.length_filterMap_eq_countP]
  exact List.countP_congr fun u _ => by simp

/-- The running jobs that hold a cell are one for a held cell and none for a free one (R23). -/
theorem cellFor_length {xs : List (UnitId × Running)} {c : Option CellHold} (h : cellFor xs = some c) :
    xs.length = if c.isSome then 1 else 0 := by
  match xs with
  | [] =>
    cases h
    rfl
  | [(u, r)] =>
    cases h
    rfl
  | x :: y :: zs => cases h

/-- The cells that are held are as many as the running jobs with an oscillator source (R23, R40). -/
theorem Resources.Agree.cellsHeld_eq {res : Resources} (h : res.Agree) :
    res.cellsHeld = (res.running.filter fun x => x.2.job.snapshot.source.isOsc).length := by
  have cells : res.cells.toList = [res.cells[(0 : CellId)], res.cells[(1 : CellId)]] := by
    apply List.ext_getElem
    · simp
    · intro i _ hi
      simp only [List.length_cons, List.length_nil] at hi
      interval_cases i <;> simp
  have split (xs : List (UnitId × Running)) :
      xs.countP (fun x => x.2.cell.isSome) =
        xs.countP (fun x => x.2.cell == some 0) + xs.countP (fun x => x.2.cell == some 1) := by
    induction xs with
    | nil => rfl
    | cons x xs ih =>
      have one : ∀ c : Option CellId,
          (if c.isSome then 1 else 0) = (if c == some 0 then 1 else 0) + (if c == some 1 then 1 else 0) := by decide
      simp only [List.countP_cons, ih, one x.2.cell]
      omega
  obtain ⟨-, holders, osc⟩ := h
  have sources : res.running.countP (fun x => x.2.job.snapshot.source.isOsc) =
      res.running.countP fun x => x.2.cell.isSome := List.countP_congr fun x hx => by rw [osc x hx]
  rw [← List.countP_eq_length_filter, sources, split, List.countP_eq_length_filter, List.countP_eq_length_filter,
    cellFor_length (holders 0), cellFor_length (holders 1)]
  simp only [Resources.cellsHeld, cells, List.countP_cons, List.countP_nil]
  omega

/-! ### The fields of the reply (R187, R188) -/

/-- The fields of operations in the GET_STATUS reply, from an offset on (R187). -/
def operationFields : Nat → List Operation → List PayloadField
  | _, [] => []
  | a, o :: os =>
    ⟨a, 1, o.opId⟩ :: ⟨a + 1, 1, o.kind.code⟩ :: ⟨a + 2, 1, o.started.toNat⟩ :: ⟨a + 3, 1, o.current⟩ ::
      operationFields (a + 4) os

/-- The code of the last discard's cause, 0 for none (R188). -/
def Line.discardCode (l : Line) : Nat := (l.lastDiscard.map DiscardCause.code).getD 0

/-- The fields of the GET_STATUS reply before its operations (R187). -/
def State.pictureFields (s : State) : List PayloadField :=
  [⟨1, 1, s.seq.mode.code⟩, ⟨2, 2, s.seq.round⟩, ⟨4, 1, s.seq.inRound.toNat⟩, ⟨5, 2, s.seq.overruns⟩,
    ⟨7, 1, s.scanWaiting⟩, ⟨8, 1, s.opWaiting⟩, ⟨9, 1, s.res.unitsBusy⟩, ⟨10, 1, s.res.cellsHeld⟩,
    ⟨11, 1, s.notices.records.length⟩, ⟨12, 1, s.delivery.inFlight.length⟩, ⟨13, 2, s.notices.tally.results⟩,
    ⟨15, 2, s.notices.tally.states⟩, ⟨17, 2, s.notices.tally.others⟩, ⟨19, 1, s.delivery.state.code⟩,
    ⟨20, 1, s.delivery.retries⟩, ⟨21, 2, s.line.discards⟩, ⟨23, 1, s.line.lastDiscard.isSome.toNat⟩,
    ⟨24, 1, s.line.discardCode⟩, ⟨25, 1, s.handler.lastReset.code⟩, ⟨26, 1, s.ops.table.length⟩]

/-- The fields of the GET_STATUS reply after its status byte (R187). -/
def State.statusFields (s : State) : List PayloadField := s.pictureFields ++ operationFields 27 s.ops.table

theorem operationFields_tiles (a : Nat) (os : List Operation) : Tiles a (operationFields a os) := by
  induction os generalizing a with
  | nil => trivial
  | cons o os ih => exact ⟨rfl, rfl, rfl, rfl, ih (a + 4)⟩

theorem State.statusFields_tiles (s : State) : Tiles 1 s.statusFields := by
  simpa [Tiles, State.statusFields, State.pictureFields] using operationFields_tiles 27 s.ops.table

theorem fieldBytes_operationFields (a : Nat) (os : List Operation) :
    fieldBytes (operationFields a os) = (os.map Operation.statusBytes).flatten := by
  induction os generalizing a with
  | nil => rfl
  | cons o os ih =>
    have tail := ih (a + 4)
    simp only [fieldBytes] at tail
    simp [operationFields, fieldBytes, tail, Operation.statusBytes, PayloadField.bytes, bytesLE, codeByte]

theorem State.statusBytes_eq (s : State) : s.statusBytes = fieldBytes s.statusFields := by
  have operations := fieldBytes_operationFields 27 s.ops.table
  simp only [fieldBytes] at operations
  simp [State.statusBytes, State.statusFields, State.pictureFields, fieldBytes, operations, PayloadField.bytes, bytesLE,
    codeByte, flagsByte, Line.discardCode]

/-- The status picture after the status byte, field by field (R187). -/
theorem State.fieldAt_status (s : State) (st : Byte) {x : PayloadField} (hx : x ∈ s.statusFields) :
    fieldAt (st :: s.statusBytes) x.offset x.size = x.value % 256 ^ x.size := by
  have read := fieldAt_fieldBytes (pre := [st]) [] s.statusFields_tiles hx
  rwa [List.append_nil, ← State.statusBytes_eq] at read

/-- The four fields of the operation at an index stand at its place. -/
theorem mem_operationFields {a i : Nat} {os : List Operation} {o : Operation} (h : os[i]? = some o) :
    ⟨a + 4 * i, 1, o.opId⟩ ∈ operationFields a os ∧ ⟨a + 1 + 4 * i, 1, o.kind.code⟩ ∈ operationFields a os ∧
      ⟨a + 2 + 4 * i, 1, o.started.toNat⟩ ∈ operationFields a os ∧
      ⟨a + 3 + 4 * i, 1, o.current⟩ ∈ operationFields a os := by
  induction os generalizing a i with
  | nil => cases h
  | cons x os ih =>
    cases i with
    | zero =>
      cases h
      simp [operationFields]
    | succ i =>
      obtain ⟨id, kind, started, current⟩ := ih (a := a + 4) (i := i) h
      rw [show a + 4 * (i + 1) = a + 4 + 4 * i by omega, show a + 1 + 4 * (i + 1) = a + 4 + 1 + 4 * i by omega,
        show a + 2 + 4 * (i + 1) = a + 4 + 2 + 4 * i by omega, show a + 3 + 4 * (i + 1) = a + 4 + 3 + 4 * i by omega]
      simp only [operationFields, List.mem_cons]
      exact ⟨.inr (.inr (.inr (.inr id))), .inr (.inr (.inr (.inr kind))), .inr (.inr (.inr (.inr started))),
        .inr (.inr (.inr (.inr current)))⟩

/-! ### The codes (R188) -/

theorem SeqMode.code_lt (x : SeqMode) : x.code < 4 := by cases x <;> decide
theorem DeliveryState.code_lt (x : DeliveryState) : x.code < 4 := by cases x <;> decide
theorem ResetKind.code_lt (x : ResetKind) : x.code < 4 := by cases x <;> decide
theorem OpKind.code_lt (x : OpKind) : x.code < 3 := by cases x <;> decide

theorem Line.discardCode_eq (l : Line) :
    l.discardCode =
      (match l.lastDiscard with
        | none => 0 | some .crc => 1 | some .length => 2 | some .gap => 3 | some .queueFull => 4
        | some .foreign => 5) := by
  unfold Line.discardCode
  cases l.lastDiscard with
  | none => rfl
  | some cause => cases cause <;> rfl

theorem Line.discardCode_lt (l : Line) : l.discardCode < 6 := by
  rw [Line.discardCode_eq]
  split <;> decide

/-! ### Every field fits its bytes -/

theorem Resources.running_length_le (res : Resources) : res.running.length ≤ 4 := List.length_filterMap_le _ _

/-- Every field of the picture of a sound state fits its bytes. -/
theorem State.pictureFields_fit {s : State} (h : s.Sound) : ∀ x ∈ s.pictureFields, x.value < 256 ^ x.size := by
  have mode := s.seq.mode.code_lt
  have inRound := s.seq.inRound.toNat_lt
  have state := s.delivery.state.code_lt
  have discarded := s.line.lastDiscard.isSome.toNat_lt
  have cause := s.line.discardCode_lt
  have kind := s.handler.lastReset.code_lt
  have records : s.notices.records.length ≤ 32 := h.noticesFit
  obtain ⟨results, states, others⟩ := h.tallyFits
  obtain ⟨scans, samples⟩ := h.jobsFit
  obtain ⟨-, -, -, round, overruns, -⟩ := h.sequencerSound
  obtain ⟨table, -⟩ := h.opsFit
  obtain ⟨-, flying, -, -, -, retries, -⟩ := h.deliverySound
  have discards := h.lineSound.2
  have busy := s.res.running_length_le
  have held : s.res.cellsHeld ≤ s.res.running.length := by
    rw [h.resourcesAgree.cellsHeld_eq]
    exact List.length_filter_le _ _
  simp only [Config.countMax, Config.scanSlots, Config.opSlots, Config.opCapacity] at *
  simp only [State.pictureFields, List.forall_mem_cons, List.not_mem_nil, false_imp_iff, implies_true, and_true,
    Resources.unitsBusy_eq]
  omega

/-- The ids and the current entries of a sound table fit a byte (R123, R124). -/
theorem State.Sound.operation_fits {s : State} (h : s.Sound) {o : Operation} (ho : o ∈ s.ops.table) :
    o.opId < 256 ∧ o.current < 256 := by
  obtain ⟨-, -, ids, -⟩ := h.opsFit
  obtain ⟨n, e, current, entry, -⟩ := firstPending_some (h.currentPending o ho)
  obtain ⟨-, count, -⟩ := o.fits_iff.mp (h.talliesFit o ho)
  have inside := (List.getElem?_eq_some_iff.mp entry).1
  have id := ids o ho
  omega

/-- Settles O21: the picture is its fields one after another, each of which fits, and a taking leaves neither WATCH nor
STALLED. -/
theorem statusPicture : Obligations.StatusPicture := by
  intro s h
  have fields : ∀ x ∈ s.pictureFields,
      fieldAt (codeByte Status.ok.code :: s.statusBytes) x.offset x.size = x.value := fun x hx =>
    (s.fieldAt_status _ (List.mem_append_left _ hx)).trans (Nat.mod_eq_of_lt (State.pictureFields_fit h x hx))
  simp only [State.pictureFields, List.forall_mem_cons] at fields
  obtain ⟨mode, round, inRound, overruns, scans, samples, units, cells, records, flying, results, states, others,
    delivery, retries, discards, discarded, cause, kind, table, -⟩ := fields
  refine ⟨?_, ?_, round, inRound, overruns, scans, samples, units.trans s.res.unitsBusy_eq,
    cells.trans h.resourcesAgree.cellsHeld_eq, records, flying, results, states, others, ?_, retries, discards, discarded,
    cause.trans s.line.discardCode_eq, ?_, table, fun i o hi => ?_, fun rest t ht => ?_⟩
  · rw [List.length_cons, State.statusBytes_length]
    omega
  · rw [mode]
    cases s.seq.mode <;> rfl
  · rw [delivery]
    cases s.delivery.state <;> rfl
  · rw [kind]
    cases s.handler.lastReset <;> rfl
  · have read {x : PayloadField} (hx : x ∈ operationFields 27 s.ops.table) (fits : x.value < 256 ^ x.size) :
        fieldAt (codeByte Status.ok.code :: s.statusBytes) x.offset x.size = x.value :=
      (s.fieldAt_status _ (List.mem_append_right _ hx)).trans (Nat.mod_eq_of_lt fits)
    obtain ⟨id, kind, started, current⟩ := mem_operationFields (a := 27) hi
    obtain ⟨idFits, currentFits⟩ := h.operation_fits (List.mem_of_getElem? hi)
    refine ⟨read id idFits, (read kind (o.kind.code_lt.trans (show 3 < 256 ^ 1 by decide))).trans ?_,
      read started (o.started.toNat_lt.trans (show 2 < 256 ^ 1 by decide)), read current currentFits⟩
    cases o.kind <;> rfl
  · have awake : t.seq.mode ≠ .watch := ht ▸ (s.beginTaking_keeps rest).1
    have going : t.delivery.state ≠ .stalled := by
      obtain ⟨-, -, -, taken, -⟩ := s.beginTaking_fields rest
      rw [ht, taken]
      exact s.delivery.endStalled_state
    have mode := t.fieldAt_status (codeByte 0) (x := ⟨1, 1, t.seq.mode.code⟩)
      (by simp [State.statusFields, State.pictureFields])
    have delivery := t.fieldAt_status (codeByte 0) (x := ⟨19, 1, t.delivery.state.code⟩)
      (by simp [State.statusFields, State.pictureFields])
    refine ⟨mode.trans_ne ?_, delivery.trans_ne ?_⟩
    · cases hm : t.seq.mode with
      | watch => exact absurd hm awake
      | stopped | running | single => decide
    · cases hd : t.delivery.state with
      | stalled => exact absurd hd going
      | opened | resend | hold => decide

end Sys2Proof.Machine
end

section
/-! The DELTA detector state by state, and invalid results and recovery in every detector (R80, R82 to R95, R110, R114,
R116). -/

namespace Sys2Proof.Machine

/-! ### Valid results of a DELTA channel (R80, R84) -/

section
variable {k : ChannelConfig} {l : LiveState} {base : Nat}

theorem detect_settling (delta : k.detector = .delta) (state : l.state = .settling) (isOpen : Bool) (raw : Nat) :
    detect k isOpen (.value raw) l = settlingResult k raw { l with faultCount := 0 } := by
  simp only [detect, delta, deltaResult, deltaValid, state]

theorem detect_idle (delta : k.detector = .delta) (state : l.state = .idle) (baseline : l.baseline = some base)
    (isOpen : Bool) (raw : Nat) :
    detect k isOpen (.value raw) l =
      idleResult k isOpen raw base (signalOf k.delta.direction base raw) { l with faultCount := 0 } := by
  simp only [detect, delta, deltaResult, deltaValid, state, baseline]

theorem detect_arming (delta : k.detector = .delta) (state : l.state = .arming) (baseline : l.baseline = some base)
    (isOpen : Bool) (raw : Nat) :
    detect k isOpen (.value raw) l =
      armingResult k isOpen (signalOf k.delta.direction base raw) { l with faultCount := 0 } := by
  simp only [detect, delta, deltaResult, deltaValid, state, baseline]

theorem detect_touched (delta : k.detector = .delta) (state : l.state = .active ∨ l.state = .releasing)
    (baseline : l.baseline = some base) (isOpen : Bool) (raw : Nat) :
    detect k isOpen (.value raw) l =
      touchedResult k raw (signalOf k.delta.direction base raw) { l with faultCount := 0 } := by
  rcases state with state | state <;> simp only [detect, delta, deltaResult, deltaValid, state, baseline]

end

/-! ### Attempts, releases and drift (R89, R91, R93, R94) -/

theorem attemptActive_open (k : ChannelConfig) (signal : Int) (l : LiveState) :
    attemptActive k true signal l =
      { live := { l with state := .active, debounce := 0, activeResults := 0, suppressed := false }
        lock := .take, transition := some { reason := .touch, value := some signal } } := rfl

theorem attemptActive_closed (k : ChannelConfig) (signal : Int) (l : LiveState) :
    attemptActive k false signal l =
      Verdict.quiet { l with state := .arming, debounce := k.debounceOn, suppressed := true } := rfl

/-- The debounce count of a release: one more in RELEASING, 1 on the first result (R93, R94). -/
def releaseCount (l : LiveState) : Nat := if l.state = .releasing then l.debounce + 1 else 1

/-- A touch that is not over: above the off threshold it is ACTIVE, otherwise it is debounced into IDLE (R93, R94). -/
theorem judgeRelease_eq (k : ChannelConfig) (signal : Int) (l : LiveState) :
    judgeRelease k signal l =
      if signal ≤ k.delta.offThreshold then
        if k.debounceOff ≤ releaseCount l then endTouch .release signal l
        else Verdict.quiet { l with state := .releasing, debounce := releaseCount l }
      else Verdict.quiet { l with state := .active, debounce := 0 } := by
  unfold judgeRelease releaseCount
  by_cases releasing : l.state = .releasing
  · simp only [releasing, if_true]
  · simp only [releasing, if_false]

/-- A touch that the hold limit has not ended goes on or is released (R92). -/
theorem touchedResult_going {k : ChannelConfig} {l : LiveState}
    (going : ¬ (0 < k.delta.holdLimit ∧ k.delta.holdLimit ≤ bump l.activeResults)) (raw : Nat) (signal : Int) :
    touchedResult k raw signal l =
      if signal ≤ k.delta.offThreshold then
        if k.debounceOff ≤ releaseCount l then endTouch .release signal { l with activeResults := bump l.activeResults }
        else Verdict.quiet
          { l with state := .releasing, debounce := releaseCount l, activeResults := bump l.activeResults }
      else Verdict.quiet { l with state := .active, debounce := 0, activeResults := bump l.activeResults } :=
  (if_neg going).trans (judgeRelease_eq k signal { l with activeResults := bump l.activeResults })

/-- In IDLE a signal that does not qualify as a touch counts against the baseline or lets it drift (R88, R89). -/
theorem idleResult_below {k : ChannelConfig} {signal : Int} (below : signal < k.delta.onThreshold) (isOpen : Bool)
    (raw base : Nat) (l : LiveState) :
    idleResult k isOpen raw base signal l =
      if signal ≤ -(k.delta.offThreshold : Int) then
        if k.delta.reverseLimit ≤ l.reverseCount + 1 then
          Verdict.quiet { l with baseline := some raw, reverseCount := 0 }
        else Verdict.quiet { l with reverseCount := l.reverseCount + 1 }
      else if k.delta.driftInterval ≤ l.driftCount + 1 then
        Verdict.quiet
          { l with
            reverseCount := 0, driftCount := 0, baseline := some (driftToward k.delta.driftStep raw base) }
      else Verdict.quiet { l with reverseCount := 0, driftCount := l.driftCount + 1 } :=
  if_neg (not_le_of_gt below)

/-- In IDLE a signal that qualifies as a touch arms, or attempts ACTIVE without a debounce (R87). -/
theorem idleResult_touch {k : ChannelConfig} {signal : Int} (touch : k.delta.onThreshold ≤ signal) (isOpen : Bool)
    (raw base : Nat) (l : LiveState) :
    idleResult k isOpen raw base signal l =
      if k.debounceOn ≤ 1 then attemptActive k isOpen signal { l with reverseCount := 0, debounce := 1 }
      else Verdict.quiet { l with state := .arming, reverseCount := 0, debounce := 1 } :=
  if_pos touch

/-- In ARMING a signal below the on threshold ends the attempt (R90). -/
theorem armingResult_below {k : ChannelConfig} {signal : Int} (below : signal < k.delta.onThreshold) (isOpen : Bool)
    (l : LiveState) :
    armingResult k isOpen signal l = Verdict.quiet { l with state := .idle, debounce := 0, suppressed := false } :=
  if_neg (not_le_of_gt below)

/-- In ARMING a touch-qualifying signal counts, and attempts ACTIVE once suppressed or debounced (R90). -/
theorem armingResult_touch {k : ChannelConfig} {signal : Int} (touch : k.delta.onThreshold ≤ signal) (isOpen : Bool)
    (l : LiveState) :
    armingResult k isOpen signal l =
      if l.suppressed = true ∨ k.debounceOn ≤ l.debounce + 1 then attemptActive k isOpen signal l
      else Verdict.quiet { l with debounce := l.debounce + 1 } := by
  unfold armingResult
  rw [if_pos touch]
  by_cases suppressed : l.suppressed = true
  · rw [if_pos suppressed, if_pos (.inl suppressed)]
  · by_cases enough : k.debounceOn ≤ l.debounce + 1
    · rw [if_neg suppressed, if_pos enough, if_pos (.inr enough), attemptActive_debounce]
    · rw [if_neg suppressed, if_neg enough, if_neg (not_or.mpr ⟨suppressed, enough⟩)]

/-- Settles O46: the four states in turn, each by the branches of its own function. -/
theorem deltaResults : Obligations.DeltaResults := by
  refine ⟨fun k isOpen raw l delta state => ?_, fun k isOpen raw base l delta state baseline => ?_,
    fun k isOpen raw base l delta state baseline => ?_, fun k isOpen raw base l delta state baseline => ?_⟩
  · rw [detect_settling delta state]
    exact ⟨fun few => if_neg (Nat.not_le_of_lt few), fun enough => if_pos enough⟩
  · rw [detect_idle delta state baseline, ← signalOf_eq]
    generalize signalOf k.delta.direction base raw = signal
    refine ⟨fun touch more => ?_, fun touch one isOpen => ?_, fun touch one closed => ?_,
      fun below reverse few => ?_, fun below reverse enough => ?_, fun below quiet few => ?_,
      fun below quiet enough => ?_⟩
    · rw [idleResult_touch touch, if_neg (Nat.not_le_of_lt more)]
      rfl
    · rw [idleResult_touch touch, if_pos one.le, isOpen, attemptActive_open]
    · rw [idleResult_touch touch, if_pos one.le, closed, attemptActive_closed, one]
      rfl
    · rw [idleResult_below below, if_pos reverse, if_neg (Nat.not_le_of_lt few)]
      rfl
    · rw [idleResult_below below, if_pos reverse, if_pos enough]
      rfl
    · rw [idleResult_below below, if_neg (not_le_of_gt quiet), if_neg (Nat.not_le_of_lt few)]
      rfl
    · rw [idleResult_below below, if_neg (not_le_of_gt quiet), if_pos enough]
      rfl
  · rw [detect_arming delta state baseline, ← signalOf_eq]
    generalize signalOf k.delta.direction base raw = signal
    refine ⟨fun below => armingResult_below below _ _, fun touch free few => ?_, fun touch ready isOpen => ?_,
      fun touch ready closed => ?_⟩
    · rw [armingResult_touch touch, if_neg (by simp [free, few])]
      rfl
    · rw [armingResult_touch touch, if_pos ready, isOpen, attemptActive_open]
    · rw [armingResult_touch touch, if_pos ready, closed, attemptActive_closed, ← state]
      rfl
  · rw [detect_touched delta state baseline, ← signalOf_eq]
    generalize signalOf k.delta.direction base raw = signal
    have goesOn := fun going => touchedResult_going (k := k) (l := { l with faultCount := 0 }) going raw signal
    refine ⟨fun held => if_pos held, fun going release enough => ?_, fun going release few => ?_,
      fun going touching => ?_⟩
    · exact (goesOn going).trans ((if_pos release).trans (if_pos enough))
    · exact (goesOn going).trans ((if_pos release).trans (if_neg (Nat.not_le_of_lt few)))
    · exact (goesOn going).trans (if_neg (not_le_of_gt touching))

/-! ### Invalid results and recovery (R82 to R84, R95, R110, R114, R116) -/

/-- The states of a detector in which invalid results count (R82, R110, R116). -/
def Detector.counting : Detector → List ChanState
  | .delta => [.settling, .idle, .arming, .active, .releasing]
  | .window => [.unknown, .inside, .above, .below]
  | .plain => [.live]

/-- An invalid result counts in the states that count faults and changes nothing in the others. -/
theorem detect_invalid (k : ChannelConfig) (isOpen : Bool) {r : Reading} (invalid : r = .noSignal ∨ r = .overrange)
    (l : LiveState) :
    detect k isOpen r l = if l.state ∈ k.detector.counting then countFault k l else Verdict.quiet l := by
  have delta : deltaInvalid k l = if l.state ∈ Detector.delta.counting then countFault k l else Verdict.quiet l := by
    unfold deltaInvalid
    cases l.state <;> rfl
  have window : windowInvalid k l = if l.state ∈ Detector.window.counting then countFault k l else Verdict.quiet l := by
    unfold windowInvalid
    cases l.state <;> rfl
  have plain : plainInvalid k l = if l.state ∈ Detector.plain.counting then countFault k l else Verdict.quiet l := by
    unfold plainInvalid
    cases l.state <;> rfl
  unfold detect
  rcases invalid with rfl | rfl
  all_goals
    cases k.detector with
    | delta => exact delta
    | window => exact window
    | plain => exact plain

theorem Detector.fault_not_counting (d : Detector) : ChanState.fault ∉ d.counting := by
  cases d <;> decide

/-- Settles O47: an invalid result counts or is quiet, and a valid one recovers from FAULT by detector. -/
theorem invalidResultsLeadToFault : Obligations.InvalidResultsLeadToFault := by
  intro k isOpen r l
  refine ⟨fun invalid counts few => ?_, fun invalid counts enough => ?_, fun invalid fault => ?_,
    fun raw valid fault => ?_⟩
  · rw [detect_invalid k isOpen invalid, if_pos (show l.state ∈ k.detector.counting from counts), countFault,
      if_neg (Nat.not_le_of_lt few)]
    rfl
  · rw [detect_invalid k isOpen invalid, if_pos (show l.state ∈ k.detector.counting from counts), countFault,
      if_pos enough]
    rfl
  · rw [detect_invalid k isOpen invalid, fault, if_neg k.detector.fault_not_counting]
    rfl
  · subst valid
    unfold detect
    cases k.detector with
    | delta => simp only [deltaResult, deltaValid, fault, Verdict.report]
    | window => simp only [windowResult, windowValid, fault, Verdict.report]
    | plain => simp only [plainResult, plainValid, fault, Verdict.report]

end Sys2Proof.Machine
end

section
/-! A CALIBRATE sample whole: what it makes of the entry, of the channel, of the operation and of the notice queue (R97,
R98, R130 to R134). -/

namespace Sys2Proof.Machine

/-! ### The entry (R132) -/

/-- The outcome of a CALIBRATE entry after a sample: an invalid one fails it, the last valid one completes it. -/
def OpEntry.calibratedOutcome (samples : Nat) (r : Reading) (e : OpEntry) : EntryOutcome :=
  match r with
  | .value _ => if (e.tally r).taken = samples then .complete else .pending
  | .noSignal | .overrange => .failed

theorem OpEntry.calibratedOutcome_cases (samples : Nat) (r : Reading) (e : OpEntry) :
    e.calibratedOutcome samples r = .pending ∨
      e.calibratedOutcome samples r = .complete ∨ e.calibratedOutcome samples r = .failed := by
  unfold OpEntry.calibratedOutcome
  cases r with
  | value raw =>
    dsimp only
    split
    · exact .inr (.inl rfl)
    · exact .inl rfl
  | noSignal | overrange => exact .inr (.inr rfl)

/-- A PENDING entry joins a sample to its tallies and takes its outcome. -/
theorem OpEntry.sampled_calibrate {n : Nat} {e : OpEntry} (pending : e.outcome = .pending) (more : e.taken < n)
    (r : Reading) :
    e.sampled .calibrate n r = { e.tally r with outcome := e.calibratedOutcome n r } := by
  cases r with
  | noSignal | overrange => rfl
  | value raw =>
    unfold OpEntry.sampled OpEntry.calibrated OpEntry.calibratedOutcome
    simp only [Reading.isValid, if_true, (e.tally_parts (.value raw)).2.2]
    by_cases last : e.taken + 1 = n
    · rw [if_pos last, if_pos last.ge]
    · rw [if_neg last, if_neg (by omega), ← pending]
      rfl

/-! ### The operation (R133, R134) -/

/-- An operation whose current entry has just ended has nothing PENDING up to it. -/
theorem Operation.Sound.ended_sampledWith {o : Operation} (h : o.Sound) {e e' : OpEntry}
    (current : o.currentEntry = some e) (left : e'.isPending = false) : (o.sampledWith e').Ended := by
  obtain ⟨before, behind, entries, length, idle, -⟩ := h.split current
  have sampled : (o.sampledWith e').entries = before ++ e' :: behind := by
    unfold Operation.sampledWith
    rw [entries, ← length, List.set_append_right _ _ (Nat.le_refl _), Nat.sub_self, List.set_cons_zero]
  have position : (o.sampledWith e').current = before.length := length.symm
  unfold Operation.Ended
  rw [sampled, position, List.take_length_add_append]
  refine ⟨by simp, fun x hx => ?_⟩
  rcases List.mem_append.mp hx with hx | hx
  · exact idle x hx
  · rwa [List.mem_singleton.mp hx]

/-- The next PENDING entry stands behind an entry that has ended. -/
theorem Operation.Ended.lt_firstPending {o : Operation} (h : o.Ended) {i : Nat}
    (first : Machine.firstPending 0 o.entries = some i) : o.current < i := by
  rw [firstPending_behind h.1 h.2] at first
  obtain ⟨n, -, rfl, -⟩ := firstPending_some first
  omega

/-- The OP_DONE record of a CALIBRATE operation, entry by entry (R134). -/
theorem Operation.doneRecord_calibrate {o : Operation} (kind : o.kind = .calibrate) :
    o.doneRecord false =
      .opDone
        { opId := o.opId, kind := .calibrate, aborted := false
          entries := o.entries.map fun x =>
            { channel := x.channel, outcome := x.outcome, validCount := 0
              first := if x.outcome = .complete then some (x.sum / o.samples) else none
              minMax := if x.valid = 0 then none else x.minMax } } := by
  unfold Operation.doneRecord OpEntry.done OpEntry.firstValue
  simp only [kind]

theorem OpEngine.update_table (e : OpEngine) (o : Operation) :
    (e.update o).table = e.table.map fun x => if x.opId = o.opId then o else x := by
  simp only [OpEngine.update, beq_iff_eq]

/-! ### The channel (R97, R98) -/

theorem State.addStateRecord_notices (c : ChanId) (round : Option Nat) (previous next : ChanState) (reason : Reason)
    (value : Option Int) (s : State) :
    (s.addStateRecord c round previous next reason value).notices =
      if s.channels[c].config.events then
        (s.notices.arrive (.state { channel := c, round := round, previous := previous, next := next, reason := reason
                                    value := value })).1
      else s.notices := by
  unfold State.addStateRecord
  split <;> rfl

/-- A channel that is not touched has no lock to free (R100). -/
theorem State.LocksSound.free_untouched {s : State} (h : s.LocksSound) {c : ChanId}
    (untouched : s.channels[c].live.state.touched = false) :
    LockAction.free.apply c s.channels[c].config.delta.group s.locks = s.locks := by
  unfold LockAction.apply freeLock
  dsimp only
  split
  · rfl
  · next g _ => exact if_neg fun held => absurd (((h g c).mp held).2.symm.trans untouched) (by decide)

/-- The live state of a channel whose calibration an entry ends: IDLE with the mean as baseline, or FAULT (R97, R98). -/
def OpEntry.settledLive (samples : Nat) (e : OpEntry) (l : LiveState) : LiveState :=
  if e.outcome = .complete then
    { l with
      state := .idle, baseline := some (e.sum / samples), debounce := 0, activeResults := 0, driftCount := 0
      reverseCount := 0, faultCount := 0, suppressed := false }
  else LiveState.cleared .fault

/-- The record of the end of a calibration (R97, R98, R104). -/
def OpEntry.settledRecord (samples : Nat) (e : OpEntry) : Record :=
  if e.outcome = .complete then
    .state { channel := e.channel, round := none, previous := .calibrating, next := .idle, reason := .calibrated
             value := some ((e.sum / samples : Nat) : Int) }
  else
    .state { channel := e.channel, round := none, previous := .calibrating, next := .fault, reason := .fault
             value := none }

/-- The end of a CALIBRATE entry changes the live state of its channel and adds the channel's record; no lock is freed,
as a calibrating channel holds none (R96 to R98, R100). -/
theorem State.settleEntry_calibrate {s : State} (h : s.LocksSound) {e : OpEntry} {c : ChanId} (named : e.channel = c)
    (ended : e.outcome = .complete ∨ e.outcome = .failed) (state : s.channels[c].live.state = .calibrating) (n : Nat) :
    (s.settleEntry .calibrate n e).channels =
        s.channels.set c { s.channels[c] with live := e.settledLive n s.channels[c].live } ∧
      (s.settleEntry .calibrate n e).locks = s.locks ∧
      (s.settleEntry .calibrate n e).notices =
        if s.channels[c].config.events then (s.notices.arrive (e.settledRecord n)).1 else s.notices := by
  subst named
  unfold State.settleEntry State.settleCalibration OpEntry.settledLive OpEntry.settledRecord
  rcases ended with outcome | outcome
  · obtain ⟨channels, locks⟩ := s.endCalibration_parts e.channel (e.sum / n)
    simp only [outcome, if_true]
    refine ⟨channels, locks, ?_⟩
    unfold State.endCalibration
    rw [State.addStateRecord_notices, State.setLive_config, State.setLive_notices]
  · obtain ⟨channels, locks⟩ := s.failCalibration_parts e.channel
    simp only [outcome, reduceCtorEq, if_false]
    refine ⟨channels, locks.trans (h.free_untouched (by rw [state]; rfl)), ?_⟩
    unfold State.failCalibration
    rw [State.addStateRecord_notices, State.setLive_config, State.setLive_notices]

/-! ### The sample (R130 to R134) -/

section
variable {s : State} {o : Operation} {e e' : OpEntry} {r : Reading}

/-- A sample that leaves its entry PENDING changes only the operation. -/
theorem State.takeSample_pending (fits : s.ops.Fits) (ho : o ∈ s.ops.table) (current : o.currentEntry = some e)
    (outstanding : o.outstanding = true) (sampled : e.sampled o.kind o.samples r = e') (pending : e'.isPending = true) :
    s.takeSample o.opId o.current r = { s with ops := s.ops.update (o.sampledWith e') } := by
  rw [State.takeSample_eq fits ho current outstanding, State.countSample]
  rw [sampled, if_pos pending]
  rfl

/-- A sample that ends its entry reaches the channel, and then the operation moves on or leaves the table with its
OP_DONE record. -/
theorem State.takeSample_ended (fits : s.ops.Fits) (ho : o ∈ s.ops.table) (current : o.currentEntry = some e)
    (outstanding : o.outstanding = true) (sampled : e.sampled o.kind o.samples r = e')
    (ended : (o.sampledWith e').Ended) (left : e'.isPending = false) {u : State}
    (settled : State.settleEntry o.kind o.samples e' { s with ops := s.ops.update (o.sampledWith e') } = u) :
    (s.takeSample o.opId o.current r).channels = u.channels ∧ (s.takeSample o.opId o.current r).locks = u.locks ∧
      (∀ i, firstPending 0 (o.sampledWith e').entries = some i →
        (s.takeSample o.opId o.current r).notices = u.notices ∧
          (s.takeSample o.opId o.current r).ops = s.ops.update { o.sampledWith e' with current := i }) ∧
      (firstPending 0 (o.sampledWith e').entries = none →
        (s.takeSample o.opId o.current r).notices = (u.notices.arrive ((o.sampledWith e').doneRecord false)).1 ∧
          (s.takeSample o.opId o.current r).ops = s.ops.remove o.opId) := by
  have ops : u.ops.advance (o.sampledWith e') = s.ops.advance (o.sampledWith e') := by
    rw [← settled, (State.settleEntry_books _ _ _ _).ops]
    exact s.ops.advance_update _
  have eq : s.takeSample o.opId o.current r = u.moveOn (o.sampledWith e') := by
    rw [State.takeSample_eq fits ho current outstanding, State.countSample]
    rw [sampled, if_neg (by simp [left]), ← settled]
    rfl
  rw [eq, State.moveOn_ops ended.1 ended.2, ops]
  unfold OpEngine.advance
  cases firstPending 0 (o.sampledWith e').entries with
  | none =>
    rw [if_pos rfl]
    refine ⟨rfl, rfl, fun i h => ?_, fun _ => ⟨rfl, rfl⟩⟩
    cases h
  | some i =>
    rw [if_neg (by simp)]
    refine ⟨rfl, rfl, fun j h => ?_, fun h => ?_⟩
    · cases h
      exact ⟨rfl, rfl⟩
    · cases h

/-- The notice queue after the end of an entry has been recorded for its channel (R6, R104). -/
def State.settledNotices (c : ChanId) (samples : Nat) (e : OpEntry) (s : State) : NoticeQueue :=
  if s.channels[c].config.events then (s.notices.arrive (e.settledRecord samples)).1 else s.notices

/-- A CALIBRATE sample that ends its entry: the channel and its record first, then the operation. -/
theorem State.Sound.takeSample_ends (sound : s.Sound) (ho : o ∈ s.ops.table) (kind : o.kind = .calibrate)
    (current : o.currentEntry = some e) (outstanding : o.outstanding = true)
    (sampled : e.sampled o.kind o.samples r = e') (channel : e'.channel = e.channel)
    (ended : e'.outcome = .complete ∨ e'.outcome = .failed) :
    (s.takeSample o.opId o.current r).channels = s.channels.set e.channel
        { s.channels[e.channel] with live := e'.settledLive o.samples s.channels[e.channel].live } ∧
      (s.takeSample o.opId o.current r).locks = s.locks ∧
      (∀ i, firstPending 0 (o.sampledWith e').entries = some i → o.current < i ∧
        (s.takeSample o.opId o.current r).notices = s.settledNotices e.channel o.samples e' ∧
        (s.takeSample o.opId o.current r).ops = s.ops.update { o.sampledWith e' with current := i }) ∧
      (firstPending 0 (o.sampledWith e').entries = none →
        (s.takeSample o.opId o.current r).notices =
            ((s.settledNotices e.channel o.samples e').arrive ((o.sampledWith e').doneRecord false)).1 ∧
          (s.takeSample o.opId o.current r).ops = s.ops.remove o.opId) := by
  have closed : e'.isPending = false := by
    unfold OpEntry.isPending
    rcases ended with outcome | outcome <;> rw [outcome] <;> rfl
  have finished := (sound.coherent.opsSound.operation ho).ended_sampledWith current closed
  obtain ⟨channels, locks, goesOn, ends⟩ :=
    State.takeSample_ended sound.opsFit ho current outstanding sampled finished closed rfl
  obtain ⟨channels', locks', notices⟩ := State.settleEntry_calibrate
    (s := { s with ops := s.ops.update (o.sampledWith e') }) sound.locksSound channel ended
    (sound.inner.calibrating ho current kind).1 o.samples
  rw [← kind] at channels' locks' notices
  refine ⟨channels.trans channels', locks.trans locks', fun i first => ?_, fun none => ?_⟩
  · obtain ⟨same, moved⟩ := goesOn i first
    exact ⟨finished.lt_firstPending first, same.trans notices, moved⟩
  · obtain ⟨added, gone⟩ := ends none
    rw [notices] at added
    exact ⟨added, gone⟩

end

/-- Settles O37: a sample that leaves the entry PENDING, and one that ends it. -/
theorem calibrateSampleCounted : Obligations.CalibrateSampleCounted := by
  intro s o e r sound ho kind outstanding current t ch e1 outcome mean entries told n1
  have operation := sound.coherent.opsSound.operation ho
  obtain ⟨-, -, -, -, -, pending⟩ := operation.split current
  obtain ⟨-, -, -, all⟩ := o.fits_iff.mp operation.1
  obtain ⟨-, more⟩ := (OpEntry.fits_iff_tallied _ e).mp (all e (List.mem_of_getElem? current))
  have tallied : e1 = e.tally r := by cases r <;> rfl
  have named : outcome = e.calibratedOutcome o.samples r := by
    subst outcome
    rw [tallied]
    cases r <;> rfl
  have sampled : e.sampled o.kind o.samples r = { e1 with outcome := outcome } := by
    rw [kind, OpEntry.sampled_calibrate (e.isPending_iff.mp pending) (more pending), named, tallied]
  have channel : e1.channel = e.channel := tallied ▸ (e.tally_parts r).1
  have outcomes := named ▸ e.calibratedOutcome_cases o.samples r
  obtain ⟨seq, queue, res, nextId, -⟩ := s.sampledInto_takeSample o.opId o.current r
  clear_value outcome e1
  rcases outcomes with rfl | ended
  · have eq := State.takeSample_pending sound.opsFit ho current outstanding sampled rfl
    subst t
    rw [eq]
    refine ⟨fun _ _ => rfl, rfl, rfl, rfl, rfl, rfl, rfl, fun _ => ⟨rfl, rfl, s.ops.update_table _⟩, ?_⟩
    simp
  · have left : outcome ≠ .pending := by rcases ended with rfl | rfl <;> decide
    obtain ⟨channels, locks, goesOn, ends⟩ := sound.takeSample_ends ho kind current outstanding sampled channel ended
    have record : s.settledNotices e.channel o.samples { e1 with outcome := outcome } = n1 := by
      subst n1 told mean
      unfold State.settledNotices OpEntry.settledRecord
      rw [channel]
      rcases ended with rfl | rfl <;> rfl
    rw [record] at goesOn ends
    have own : t.channels[e.channel] =
        { ch with live := OpEntry.settledLive o.samples { e1 with outcome := outcome } ch.live } := by
      rw [channels, set_channel, if_pos rfl]
    refine ⟨fun c other => ?_, locks, by rw [own], seq, res, queue, nextId, fun e => absurd e left,
      fun complete => ?_, fun failed => ?_, fun _ i first => ?_, fun _ none => ?_⟩
    · rw [channels, set_channel, if_neg other.symm]
    · rw [own]
      exact if_pos complete
    · rw [own]
      exact if_neg (by simp [failed])
    · obtain ⟨behind, same, moved⟩ := goesOn i first
      exact ⟨behind, same, by rw [moved]; exact s.ops.update_table _⟩
    · obtain ⟨added, gone⟩ := ends none
      rw [Operation.doneRecord_calibrate (o := o.sampledWith { e1 with outcome := outcome }) kind] at added
      exact ⟨by rw [gone]; rfl, added⟩

end Sys2Proof.Machine
end

section
/-! Changes of several channels one after another, each told by a STATE record where its events field is ON: the begin
of calibrations and their abort (R96, R99, R104). -/

namespace Sys2Proof.Machine

/-- A change of one channel: its live state is replaced, and a STATE record follows if its events field is ON. -/
structure State.Retells (f : ChanId → State → State) (live : Channel → LiveState)
    (record : ChanId → Channel → StateRecord) : Prop where
  channels : ∀ c s, (f c s).channels = s.channels.set c { s.channels[c] with live := live s.channels[c] }
  notices : ∀ c s, (f c s).notices =
    if s.channels[c].config.events then (s.notices.arrive (.state (record c s.channels[c]))).1 else s.notices

namespace State.Retells

variable {f : ChanId → State → State} {live : Channel → LiveState} {record : ChanId → Channel → StateRecord}

theorem records_le (h : Retells f live record) (c : ChanId) (s : State) :
    (f c s).notices.records.length ≤ s.notices.records.length + 1 := by
  rw [h.notices]
  split
  · exact s.notices.arrive_length _
  · exact Nat.le_succ _

theorem records_keep (h : Retells f live record) (c : ChanId) {s : State} {r : Record} (hr : r ∈ s.notices.records)
    (kind : r.isResult = false) : r ∈ (f c s).notices.records := by
  rw [h.notices]
  split
  · exact NoticeQueue.arrive_keeps hr kind _
  · exact hr

/-- Distinct channels change one after another: each as it stood before, no other, and each is told where the queue has
room. -/
theorem fold (h : Retells f live record) {cs : List ChanId} (distinct : cs.Nodup) (s : State) :
    (∀ d : ChanId, (cs.foldl (fun t c => f c t) s).channels[d] =
        if d ∈ cs then { s.channels[d] with live := live s.channels[d] } else s.channels[d]) ∧
      (cs.foldl (fun t c => f c t) s).notices.records.length ≤ s.notices.records.length + cs.length ∧
      (∀ r ∈ s.notices.records, r.isResult = false → r ∈ (cs.foldl (fun t c => f c t) s).notices.records) ∧
      (s.notices.records.length + cs.length ≤ Config.noticeCapacity → ∀ c ∈ cs, s.channels[c].config.events = true →
        .state (record c s.channels[c]) ∈ (cs.foldl (fun t c => f c t) s).notices.records) := by
  induction cs generalizing s with
  | nil => exact ⟨fun d => rfl, Nat.le_refl _, fun r hr _ => hr, fun _ c hc => by cases hc⟩
  | cons c cs ih =>
    obtain ⟨new, distinct⟩ := List.nodup_cons.mp distinct
    obtain ⟨channels, length, stays, told⟩ := ih distinct (f c s)
    have one := h.records_le c s
    have changed (d : ChanId) : (f c s).channels[d] =
        if c = d then { s.channels[d] with live := live s.channels[d] } else s.channels[d] := by
      rw [h.channels, set_channel]
      split
      · next same => rw [same]
      · rfl
    rw [List.foldl_cons, List.length_cons]
    refine ⟨fun d => ?_, by omega, fun r hr kind => stays r (h.records_keep c hr kind) kind,
      fun room d hd events => ?_⟩
    · rw [channels, changed]
      by_cases same : c = d
      · subst same
        rw [if_neg new, if_pos rfl, if_pos List.mem_cons_self]
      · simp [same, Ne.symm same]
    · rcases List.mem_cons.mp hd with rfl | hd
      · refine stays _ ?_ rfl
        rw [h.notices, if_pos events]
        exact NoticeQueue.arrive_places rfl (by omega)
      · have apart : c ≠ d := fun same => new (same ▸ hd)
        have recorded := told (by omega) d hd
        rw [changed, if_neg apart] at recorded
        exact recorded events

end State.Retells

/-- The live state of a channel whose calibration is aborted (R99). -/
def LiveState.released (l : LiveState) : LiveState := { l with state := .settling, settleSum := 0, settleSamples := 0 }

theorem State.abortCalibration_retells :
    State.Retells State.abortCalibration (fun ch => ch.live.released) fun c _ =>
      { channel := c, round := none, previous := .calibrating, next := .settling, reason := .calAborted
        value := none } where
  channels c s := (s.abortCalibration_parts c).1
  notices c s := by
    unfold State.abortCalibration
    rw [State.addStateRecord_notices, State.setLive_config, State.setLive_notices]

end Sys2Proof.Machine
end

section
/-! ABORT_OP as the host sees it: the request, its effects and its reply (R99, R134, R135, R177). -/

namespace Sys2Proof.Machine

/-! ### The effects (R135) -/

/-- An operation with every PENDING entry ABORTED (R135 step 2). -/
def Operation.abortedWhole (o : Operation) : Operation :=
  { o with entries := closePending (fun _ => true) .aborted o.entries }

/-- The OP_DONE record of an aborted operation, entry by entry (R134, R135). -/
theorem Operation.doneRecord_aborted (o : Operation) :
    o.abortedWhole.doneRecord true =
      .opDone
        { opId := o.opId, kind := o.kind, aborted := true
          entries := o.entries.map fun e =>
            OpEntry.done o.kind o.samples (if e.outcome = .pending then { e with outcome := .aborted } else e) } := by
  simp only [Operation.doneRecord, Operation.abortedWhole, closePending, List.map_map, Bool.and_true,
    OpEntry.isPending_iff, Function.comp_def]

theorem Operation.mem_pendingChannels_iff (o : Operation) (c : ChanId) :
    c ∈ o.pendingChannels ↔ ∃ e ∈ o.entries, e.channel = c ∧ e.outcome = .pending := by
  simp only [Operation.pendingChannels, List.mem_map, List.mem_filter, OpEntry.isPending_iff, and_assoc]
  exact exists_congr fun e => and_congr_right fun _ => and_comm

/-- What the release of an aborted operation's channels does (R99, R135 step 3). -/
structure State.Released (o : Operation) (s t : State) : Prop where
  locks : t.locks = s.locks
  channels : ∀ d : ChanId, t.channels[d] =
    if o.kind = .calibrate ∧ d ∈ o.pendingChannels then { s.channels[d] with live := s.channels[d].live.released }
    else s.channels[d]
  length : t.notices.records.length ≤ s.notices.records.length + 8
  told : s.notices.records.length + 8 ≤ Config.noticeCapacity → o.kind = .calibrate →
    ∀ c ∈ o.pendingChannels, s.channels[c].config.events = true →
      Record.state
          { channel := c, round := none, previous := .calibrating, next := .settling, reason := .calAborted
            value := none } ∈ t.notices.records

theorem State.releaseAborted_released {o : Operation} (fits : o.fits = true) (s : State) :
    s.Released o (s.releaseAborted o) := by
  obtain ⟨-, ⟨-, count⟩, distinct, -⟩ := o.fits_iff.mp fits
  have few : o.pendingChannels.length ≤ 8 := by
    unfold Operation.pendingChannels
    rw [List.length_map]
    exact (List.length_filter_le _ _).trans count
  unfold State.releaseAborted
  cases kind : o.kind with
  | measure =>
    refine ⟨rfl, fun d => ?_, Nat.le_add_right _ _, fun _ h => ?_⟩
    · simp [kind]
    · rw [kind] at h
      cases h
  | calibrate =>
    have once : o.pendingChannels.Nodup := List.Nodup.sublist (List.filter_sublist.map _) distinct
    obtain ⟨channels, length, -, told⟩ := State.abortCalibration_retells.fold once s
    refine ⟨?_, fun d => (channels d).trans (by simp [kind]), length.trans (by omega), fun room _ => told (by omega)⟩
    exact List.foldlRecOn (motive := fun t : State => t.locks = s.locks) o.pendingChannels _ rfl
      fun t same c _ => (t.abortCalibration_parts c).2.trans same

theorem State.releaseAborted_books (o : Operation) (s : State) : s.SameBooks (s.releaseAborted o) := by
  have same : s.SameBooks s := ⟨rfl, rfl, rfl, rfl, id⟩
  unfold State.releaseAborted
  cases o.kind with
  | measure => exact same
  | calibrate =>
    exact List.foldlRecOn (motive := s.SameBooks) o.pendingChannels _ same
      fun t books c _ => books.trans (t.abortCalibration_books c)

theorem OpEngine.remove_ids (id : Nat) (e : OpEngine) :
    (e.remove id).table.map Operation.opId = (e.table.map Operation.opId).filter fun n => n != id := by
  rw [List.filter_map]
  rfl

/-- An operation leaves the table with its OP_DONE record (R134, R135 steps 4 and 5). -/
def State.dismiss (record : Record) (id : Nat) (s : State) : State := { s.addRecord record with ops := s.ops.remove id }

theorem State.abortOperation_eq (o : Operation) (s : State) :
    s.abortOperation o =
      (State.dismiss (o.abortedWhole.doneRecord true) o.opId
        ((s.withdraw (Job.ofOp o.opId)).releaseAborted o)).drive := rfl

/-- `t` is `s` after the operation `o` of its table has been aborted. -/
structure State.Aborted (o : Operation) (s t : State) : Prop where
  ids : t.ops.table.map Operation.opId = (s.ops.table.map Operation.opId).filter fun id => id != o.opId
  nextId : t.ops.nextId = s.ops.nextId
  locks : t.locks = s.locks
  jobs : ∀ j ∈ t.jobs, ∀ e, j.origin ≠ .op o.opId e
  channels : ∀ d : ChanId, t.channels[d] =
    if o.kind = .calibrate ∧ d ∈ o.pendingChannels then { s.channels[d] with live := s.channels[d].live.released }
    else s.channels[d]
  told : s.load + 8 < Config.noticeCapacity → o.kind = .calibrate →
    ∀ c ∈ o.pendingChannels, s.channels[c].config.events = true →
      Record.state
          { channel := c, round := none, previous := .calibrating, next := .settling, reason := .calAborted
            value := none } ∈ t.notices.records
  done : s.load + 8 < Config.noticeCapacity → o.abortedWhole.doneRecord true ∈ t.notices.records

/-- An operation that has left the table of a settled state has no job. -/
theorem State.Settled.no_job {s : State} (h : s.Settled) {id : Nat} (gone : id ∉ s.ops.table.map Operation.opId) :
    ∀ j ∈ s.jobs, ∀ e, j.origin ≠ .op id e := by
  intro j hj e origin
  obtain ⟨o, ho, samples⟩ := h.inner.coherent.opJobs.2 j hj ((Job.isOp_iff j).mpr ⟨id, e, origin⟩)
  have own := origin.symm.trans ((Job.samples_iff o j).mp samples).1
  exact gone ((Origin.op.inj own).1 ▸ List.mem_map_of_mem ho)

theorem State.Settled.aborted {s : State} (h : s.Settled) {o : Operation} (ho : o ∈ s.ops.table) :
    s.Aborted o (s.abortOperation o) := by
  have settled := h.abortOperation ho
  have gone := h.inner.coherent.withdraw (fun _ => rfl) (named := Job.ofOp o.opId) (fun _ => rfl)
    fun _ lost => by cases lost
  have same := State.withdraw_same (Job.ofOp o.opId) s
  have waiting := (State.records_le_load _).trans (State.load_withdraw (Job.ofOp o.opId) s)
  have idsBefore := gone.plans.map_eq Operation.opId fun _ => rfl
  have nextBefore := gone.plans.2
  rw [State.abortOperation_eq] at settled ⊢
  generalize s.withdraw (Job.ofOp o.opId) = w at *
  have books := w.releaseAborted_books o
  obtain ⟨locks, channels, length, told⟩ :=
    State.releaseAborted_released (h.inner.coherent.opsSound.operation ho).1 w
  generalize w.releaseAborted o = r at *
  have driven := State.Worked.drive (r.dismiss (o.abortedWhole.doneRecord true) o.opId)
  have ids := driven.ids.trans (r.ops.remove_ids o.opId)
  rw [books.ops, idsBefore] at ids
  refine ⟨ids, ?_, ?_, settled.no_job ?_, fun d => ?_, fun room kind c hc events => ?_, fun room => ?_⟩
  · exact driven.nextId.trans ((congrArg OpEngine.nextId books.ops).trans nextBefore)
  · exact driven.same.locks.trans (locks.trans same.locks)
  · intro mem
    have left := (List.mem_filter.mp (ids ▸ mem)).2
    simp at left
  · rw [driven.same.channels, ← same.channels]
    exact channels d
  · rw [← same.channels] at events
    exact (State.record_kept rfl).drive (NoticeQueue.arrive_keeps (told (by omega) kind c hc events) rfl _)
  · exact (State.record_kept rfl).drive (NoticeQueue.arrive_places (q := r.notices) rfl (by omega))

/-- What an abort does is a matter of the plan of its operation. -/
theorem Operation.abort_of_plan {o p : Operation} (plan : p.plan = o.plan) :
    p.opId = o.opId ∧ p.kind = o.kind ∧ p.pendingChannels = o.pendingChannels ∧
      p.abortedWhole.doneRecord true = o.abortedWhole.doneRecord true := by
  obtain ⟨id, kind, samples, entries, -⟩ := OpEngine.plan_eq plan
  refine ⟨id, kind, ?_, ?_⟩
  · unfold Operation.pendingChannels
    rw [entries]
  · rw [Operation.doneRecord_aborted, Operation.doneRecord_aborted, id, kind, samples, entries]

/-! ### The request (R135, R177) -/

/-- ABORT_OP is carried out in the state of its taking and answered. -/
theorem exec_abortOp {f : Frame} {rest : List Frame} {s : State} {b : Byte} (h : s.TakesNew .abortOp f rest)
    (payload : f.payload = [b]) :
    exec .abortOp s =
      .next (State.replied f (serveAbortOp [b] (s.beginTaking rest)).2 (serveAbortOp [b] (s.beginTaking rest)).1) := by
  have generic : RequestKind.abortOp.generic f.payload = none := by rw [payload]; rfl
  show Host.Outcome.next (s.request .abortOp serveAbortOp) = _
  rw [State.request_new h, checked_of_generic _ _ generic, payload]

theorem serveAbortOp_none {b : Byte} {u : State} (none : b.toNat ∉ u.ops.table.map Operation.opId) :
    serveAbortOp [b] u = (u, { status := .badValue, rest := [0#8] }) := by
  have missing : u.ops.find b.toNat = Option.none :=
    List.find?_eq_none.mpr fun o ho => by
      rw [beq_iff_eq]
      exact fun same => none (same ▸ List.mem_map_of_mem ho)
  unfold serveAbortOp
  rw [byteAt_singleton, missing]
  rfl

theorem serveAbortOp_some {b : Byte} {u : State} {o : Operation} (fits : u.ops.Fits) (ho : o ∈ u.ops.table)
    (id : o.opId = b.toNat) : serveAbortOp [b] u = (u.abortOperation o, Reply.ok) := by
  unfold serveAbortOp
  rw [byteAt_singleton, ← id, fits.find_eq ho]

/-- Settles O33: the operation with the id in the state of the taking, its abort, and the reply. -/
theorem abortOpEnds : Obligations.AbortOpEnds := by
  intro f rest s b sound takes payload
  obtain ⟨channels, locks, -⟩ := s.beginTaking_fields rest
  obtain ⟨plans, loaded⟩ := sound.settled.taken rest
  obtain ⟨settled, -⟩ := sound.settled.beginTaking rest
  have ids := plans.map_eq Operation.opId fun _ => rfl
  rw [exec_abortOp takes payload]
  refine ⟨fun none => ?_, fun o ho id => ?_⟩
  · rw [serveAbortOp_none]
    rw [ids]
    rintro mem
    obtain ⟨o, ho, same⟩ := List.mem_map.mp mem
    exact none o ho same
  · obtain ⟨p, hp, plan⟩ := plans.symm.exists_plan ho
    obtain ⟨id', kind, pending, record⟩ := Operation.abort_of_plan plan
    rw [serveAbortOp_some settled.inner.coherent.opsSound.1 hp (id'.trans id)]
    have same := (State.sameLink_kept (s.beginTaking rest)).abortOperation p ⟨rfl, rfl, rfl, rfl, rfl⟩
    have room (few : s.notices.records.length ≤ 16) : (s.beginTaking rest).load + 8 < Config.noticeCapacity :=
      (Nat.add_le_add_right (loaded 16 few) _).trans_lt (by decide)
    refine ⟨_, rfl, State.answered same, ?_⟩
    rw [State.replied_eq]
    dsimp only
    obtain ⟨idsAfter, nextId, locksAfter, jobs, channelsAfter, told, done⟩ := settled.aborted hp
    rw [id', id, ids] at idsAfter
    rw [id', id] at jobs
    rw [kind, pending, channels] at channelsAfter told
    rw [record, Operation.doneRecord_aborted] at done
    refine ⟨idsAfter, nextId.trans plans.2, locksAfter.trans locks, jobs, fun c => ?_, fun few kind e he waits => ?_,
      fun few => done (room few)⟩
    · simp only [channelsAfter c, Operation.mem_pendingChannels_iff]
      rfl
    · exact told (room few) kind e.channel ((o.mem_pendingChannels_iff _).mpr ⟨e, he, rfl, waits⟩)

end Sys2Proof.Machine
end

section
/-! CALIBRATE as the host sees it: the request, its effects and its reply (R96, R124 to R127, R177). -/

namespace Sys2Proof.Machine

/-! ### The operands (R125, R186) -/

theorem badOpChannel_eq_none {earlier ns : List Nat} (range : ∀ n ∈ ns, n ≤ 23) (new : ∀ n ∈ ns, n ∉ earlier)
    (distinct : ns.Nodup) (offset : Nat) : badOpChannel earlier ns offset = none := by
  induction ns generalizing earlier offset with
  | nil => rfl
  | cons n ns ih =>
    obtain ⟨low, range⟩ := List.forall_mem_cons.mp range
    obtain ⟨fresh, new⟩ := List.forall_mem_cons.mp new
    obtain ⟨apart, distinct⟩ := List.nodup_cons.mp distinct
    unfold badOpChannel
    rw [if_neg (Nat.not_lt_of_le low), if_neg (by simpa using fresh)]
    refine ih range (fun m hm => ?_) distinct _
    rw [List.mem_append, List.mem_singleton, not_or]
    exact ⟨new m hm, fun same => apart (same ▸ hm)⟩

theorem wrongOpChannel_eq_none {k : OpKind} {s : State} {cs : List ChanId} (admits : ∀ c ∈ cs, s.admitsOp k c = true)
    (offset : Nat) : s.wrongOpChannel k cs offset = none := by
  induction cs generalizing offset with
  | nil => rfl
  | cons c cs ih =>
    obtain ⟨here, admits⟩ := List.forall_mem_cons.mp admits
    unfold State.wrongOpChannel
    rw [if_pos here]
    exact ih admits _

/-- The payload of an operation request: the samples, the number of channels, the channels (R186). -/
def operationPayload (n : Byte) (cs : List ChanId) : List Byte :=
  n :: BitVec.ofNat 8 cs.length :: cs.map fun c => BitVec.ofNat 8 c.val

section
variable (n : Byte) {cs : List ChanId}

theorem byteAt_operationPayload (few : cs.length ≤ 8) :
    byteAt (operationPayload n cs) 0 = n.toNat ∧ byteAt (operationPayload n cs) 1 = cs.length := by
  refine ⟨rfl, ?_⟩
  show (BitVec.ofNat 8 cs.length).toNat = _
  rw [BitVec.toNat_ofNat, Nat.mod_eq_of_lt (by omega)]

theorem opChannelBytes_operationPayload (cs : List ChanId) :
    opChannelBytes (operationPayload n cs) = cs.map Fin.val := by
  show List.map BitVec.toNat (cs.map fun c => BitVec.ofNat 8 c.val) = _
  rw [List.map_map]
  refine List.map_congr_left fun c _ => ?_
  rw [Function.comp_apply, BitVec.toNat_ofNat, Nat.mod_eq_of_lt (c.isLt.trans (by decide))]

theorem opChannels_operationPayload (cs : List ChanId) : opChannels (operationPayload n cs) = cs := by
  unfold opChannels
  rw [opChannelBytes_operationPayload, List.map_map]
  conv_rhs => rw [← List.map_id cs]
  exact List.map_congr_left fun c _ => finOr_val c

theorem generic_operationPayload (few : cs.length ≤ 8) :
    RequestKind.calibrate.generic (operationPayload n cs) = none := by
  refine RequestKind.generic_none ?_ rfl
  obtain ⟨-, count⟩ := byteAt_operationPayload n few
  simp only [RequestKind.lengthOk, count, Bool.and_eq_true, decide_eq_true_eq]
  simp only [operationPayload, List.length_cons, List.length_map]
  omega

/-- A CALIBRATE that no check of R125 refuses. -/
theorem State.accepts_calibrate {n : Byte} {s : State} (low : 1 ≤ n.toNat) (high : n.toNat ≤ 64) (nonempty : cs ≠ [])
    (few : cs.length ≤ 8) (distinct : cs.Nodup) (admits : ∀ c ∈ cs, s.admitsOp .calibrate c = true)
    (room : s.ops.table.length < 4) :
    s.refuseOperation .calibrate (operationPayload n cs) = none ∧ s.Accepts .calibrate (operationPayload n cs) := by
  obtain ⟨samples, count⟩ := byteAt_operationPayload n few
  have positive := List.length_pos_iff.mpr nonempty
  have accepted : s.refuseOperation .calibrate (operationPayload n cs) = none := by
    unfold State.refuseOperation
    rw [samples, count, opChannels_operationPayload, opChannelBytes_operationPayload,
      badOpChannel_eq_none (fun m hm => ?_) (fun _ _ => List.not_mem_nil) (distinct.map Fin.val_injective),
      wrongOpChannel_eq_none admits, if_neg (by simp [inRange, OpKind.maxSamples, low, high]),
      if_neg (by simp [inRange, few, Nat.succ_le_of_lt positive])]
    · exact if_neg (Nat.not_le_of_lt room)
    · obtain ⟨c, -, rfl⟩ := List.mem_map.mp hm
      exact Nat.le_of_lt_succ c.isLt
  refine ⟨accepted, State.refuseOperation_none accepted ?_⟩
  rw [count]
  simp only [operationPayload, List.length_cons, List.length_map]
  omega

end

/-- The id that the next operation takes is a matter of the ids of the table and the next op id (R124). -/
theorem OpEngine.takenId_congr {e e' : OpEngine} (ids : e'.table.map Operation.opId = e.table.map Operation.opId)
    (nextId : e'.nextId = e.nextId) : e'.takenId = e.takenId := by
  have held (n : Nat) : (e'.table.any fun o => o.opId == n) = e.table.any fun o => o.opId == n := by
    have through (xs : List Operation) : (xs.any fun o => o.opId == n) = (xs.map Operation.opId).any (· == n) := by
      rw [List.any_map]
      rfl
    rw [through, through, ids]
  have walk (fuel n : Nat) : firstFreeId e'.table fuel n = firstFreeId e.table fuel n := by
    induction fuel generalizing n with
    | zero => rfl
    | succ fuel ih => rw [firstFreeId, firstFreeId, held, ih]
  have length : e'.table.length = e.table.length := by simpa using congrArg List.length ids
  unfold OpEngine.takenId
  rw [walk, length, nextId]

/-! ### The channels and their locks (R96, R127) -/

theorem State.startCalibration_retells :
    State.Retells State.startCalibration (fun _ => LiveState.cleared .calibrating) fun c ch =>
      { channel := c, round := none, previous := ch.live.state, next := .calibrating, reason := .calibrating
        value := none } where
  channels c s := (s.startCalibration_parts c).1
  notices c s := by
    unfold State.startCalibration
    rw [State.addStateRecord_notices, State.setLive_config, State.setLive_notices]

/-- The begin of calibrations frees the locks that their channels hold, and no other (R96, R102). -/
theorem State.startCalibrations_locks {s : State} (cs : List ChanId)
    (holders : ∀ (g : LockId) (c : ChanId), s.locks[g] = some c → s.channels[c].config.delta.group = some g)
    (g : LockId) :
    (cs.foldl (fun t c => t.startCalibration c) s).locks[g] =
      if ∃ c ∈ cs, s.locks[g] = some c then none else s.locks[g] := by
  induction cs generalizing s with
  | nil => simp
  | cons c cs ih =>
    obtain ⟨channels, locks⟩ := s.startCalibration_parts c
    have freed (g : LockId) : (s.startCalibration c).locks[g] = if s.locks[g] = some c then none else s.locks[g] := by
      rw [locks, LockAction.apply_get]
      dsimp only
      split
      · rfl
      · next other => rw [if_neg fun held => other (holders g c held)]
    rw [List.foldl_cons, ih fun g d held => ?_, freed]
    · generalize s.locks[g] = holder
      by_cases own : holder = some c
      · simp [own]
      · simp [own]
    · rw [freed] at held
      have config : (s.startCalibration c).channels[d].config = s.channels[d].config := by
        rw [channels, set_channel]
        split
        · next same => rw [same]
        · rfl
      rw [config]
      split at held
      · cases held
      · exact holders g d held

/-- The sequencer issues no job of a channel that calibrates (R69). -/
theorem State.drive_spares {s : State} {cs : List ChanId}
    (calibrating : ∀ c ∈ cs, s.channels[c].live.state = .calibrating)
    (none : ∀ j ∈ s.jobs, j.channel ∈ cs → j.isScan = false) :
    ∀ j ∈ s.drive.jobs, j.channel ∈ cs → j.isScan = false := by
  have entered (t : State) (o : Origin) (c : ChanId) (jobs : ∀ j ∈ t.jobs, j.channel ∈ cs → j.isScan = false)
      (spared : c ∈ cs → (t.newJob o c).isScan = false) :
      ∀ j ∈ (t.enterJob o c).jobs, j.channel ∈ cs → j.isScan = false := by
    intro j hj named
    rcases State.mem_jobs_enterJob hj with same | ⟨k, hk, same⟩
    · rw [← Job.bare_channel, same] at named
      rw [← Job.bare_isScan, same]
      exact spared named
    · rw [← Job.bare_channel, ← same] at named
      rw [← Job.bare_isScan, ← same]
      exact jobs k hk named
  refine (State.driveFor_keeps
    (fun t => (∀ c ∈ cs, t.channels[c].live.state = .calibrating) ∧ ∀ j ∈ t.jobs, j.channel ∈ cs → j.isScan = false)
    (fun t ht _ => ?_) (fun _ _ ht _ => ht) (fun t e ht next => ?_) (fun t o ht _ => ?_) (fun _ ht => ht) _ _ s
    ⟨calibrating, none⟩).2
  · have same : t.completeRound.jobs = t.jobs := by
      unfold State.jobs
      rw [State.completeRound_queue, State.completeRound_res]
    rw [same, (State.completeRound_same t).channels]
    exact ht
  · obtain ⟨-, -, can, -⟩ := (t.nextScan_iff e).mp next
    refine ⟨ht.1, entered _ _ _ ht.2 fun named => ?_⟩
    unfold State.scannable at can
    rw [ht.1 _ named] at can
    simp at can
  · unfold State.issueSample
    split
    · exact ht
    · exact ⟨ht.1, entered _ _ _ ht.2 fun _ => rfl⟩

/-! ### The effects (R126, R127) -/

/-- `t` is `s` after a CALIBRATE with the payload `p` has been accepted. -/
structure State.CalibrationBegun (p : List Byte) (s t : State) : Prop where
  ids : t.ops.table.map Operation.opId = s.ops.table.map Operation.opId ++ [s.ops.takenId]
  youngest : (t.ops.table.map Operation.plan).getLast? = some (newOperation s.ops.takenId .calibrate p)
  channels : ∀ d : ChanId, t.channels[d] =
    if d ∈ opChannels p then { s.channels[d] with live := LiveState.cleared .calibrating } else s.channels[d]
  locks : ∀ g : LockId, t.locks[g] = if ∃ c ∈ opChannels p, s.locks[g] = some c then none else s.locks[g]
  jobs : ∀ j ∈ t.jobs, j.channel ∈ opChannels p → j.isScan = false
  told : s.load + 8 ≤ Config.noticeCapacity → ∀ c ∈ opChannels p, s.channels[c].config.events = true →
    Record.state
        { channel := c, round := none, previous := s.channels[c].live.state, next := .calibrating
          reason := .calibrating, value := none } ∈ t.notices.records

theorem State.Settled.calibrationBegun {s : State} (h : s.Settled) {p : List Byte} (accepts : s.Accepts .calibrate p)
    (mode : s.seq.mode ≠ .watch) : s.CalibrationBegun p (s.startOperation .calibrate p) := by
  obtain ⟨coherent, -⟩ := h.accept accepts mode
  have gone := coherent.withdraw (fun _ => rfl)
    (named := fun j => j.isScan && (opChannels p).contains j.channel) (fun _ => rfl) fun _ lost => by cases lost
  have same := State.withdraw_same (fun j => j.isScan && (opChannels p).contains j.channel)
    (s.acceptOperation .calibrate p)
  have waiting := (State.records_le_load _).trans
    (State.load_withdraw (fun j => j.isScan && (opChannels p).contains j.channel) (s.acceptOperation .calibrate p))
  rw [State.load_congr (s := s) (State.acceptOperation_notices s _ _) (congrArg _ (State.acceptOperation_seq s _ _))]
    at waiting
  show s.CalibrationBegun p (State.drive (State.beginCalibration (opChannels p) (s.acceptOperation .calibrate p)))
  unfold State.beginCalibration
  generalize (s.acceptOperation .calibrate p).withdraw _ = w at *
  have sameChannels : w.channels = s.channels := same.channels
  have sameLocks : w.locks = s.locks := same.locks
  have books : w.SameBooks ((opChannels p).foldl (fun t c => t.startCalibration c) w) :=
    List.foldlRecOn (motive := w.SameBooks) _ _ ⟨rfl, rfl, rfl, rfl, id⟩
      fun t books c _ => books.trans (t.startCalibration_books c)
  obtain ⟨channels, -, -, told⟩ := State.startCalibration_retells.fold accepts.distinct w
  have locks := State.startCalibrations_locks (s := w) (opChannels p) fun g c held =>
    ((h.inner.channels.of_same sameChannels sameLocks).locks g c).mp held |>.1
  have few := accepts.count.2
  generalize (opChannels p).foldl (fun t c => t.startCalibration c) w = b at *
  have distinct := gone.coherent.opsSound.1.2.1
  rw [← books.ops] at distinct
  have plans := gone.plans.trans (books.ops ▸ State.samePlans_drive distinct)
  have driven := b.drive_same
  refine ⟨?_, ?_, fun d => ?_, fun g => ?_, State.drive_spares (fun c hc => ?_) fun j hj named => ?_,
    fun room c hc events => (State.record_kept rfl).drive ?_⟩
  · rw [plans.map_eq Operation.opId fun _ => rfl]
    exact List.map_append
  · rw [plans.1]
    exact (congrArg List.getLast? List.map_append).trans List.getLast?_concat
  · rw [driven.channels, channels, sameChannels]
  · rw [driven.locks, locks, sameLocks]
  · rw [channels, if_pos hc]
    rfl
  · have spared := gone.unnamed j (books.jobs ▸ hj)
    simpa [named] using spared
  · rw [← sameChannels] at events ⊢
    exact told (by omega) c hc events

/-! ### The request (R96, R126, R177) -/

/-- An accepted CALIBRATE is carried out and answered ACCEPTED with the id taken. -/
theorem exec_calibrate_accepted {f : Frame} {rest : List Frame} {s : State} (h : s.TakesNew .calibrate f rest)
    (generic : RequestKind.calibrate.generic f.payload = none)
    (accepted : (s.beginTaking rest).refuseOperation .calibrate f.payload = none) :
    exec .calibrate s =
      .next (State.replied f { status := .accepted, rest := [codeByte (s.beginTaking rest).ops.takenId] }
        ((s.beginTaking rest).startOperation .calibrate f.payload)) := by
  show Host.Outcome.next (s.request .calibrate (serveOperation .calibrate)) = _
  rw [State.request_new h, checked_of_generic _ _ generic]
  simp only [serveOperation, accepted]

/-- Settles O31: the state of the taking, in which no check refuses, the begin of the calibrations, and the reply. -/
theorem calibrateStarts : Obligations.CalibrateStarts := by
  intro f rest s n cs sound takes low high nonempty few distinct admits room payload
  obtain ⟨channels, locks, -⟩ := s.beginTaking_fields rest
  obtain ⟨plans, loaded⟩ := sound.settled.taken rest
  obtain ⟨settled, mode⟩ := sound.settled.beginTaking rest
  have ids := plans.map_eq Operation.opId fun _ => rfl
  have taken := OpEngine.takenId_congr ids plans.2
  have length : (s.beginTaking rest).ops.table.length = s.ops.table.length := by simpa using congrArg List.length ids
  obtain ⟨accepted, accepts⟩ := State.accepts_calibrate (s := s.beginTaking rest) low high nonempty few distinct
    (fun c hc => by simpa [State.admitsOp, channels, and_assoc] using admits c hc) (length ▸ room)
  have payload : f.payload = operationPayload n cs := payload
  have begun := settled.calibrationBegun accepts mode
  have same := (State.sameLink_kept (s.beginTaking rest)).startOperation .calibrate (operationPayload n cs)
    ⟨rfl, rfl, rfl, rfl, rfl⟩
  rw [exec_calibrate_accepted takes (payload ▸ generic_operationPayload n few) (payload ▸ accepted), payload, taken]
  refine ⟨_, rfl, State.answered same, ?_⟩
  rw [State.replied_eq]
  dsimp only
  generalize (s.beginTaking rest).startOperation .calibrate (operationPayload n cs) = t at begun
  obtain ⟨idsAfter, youngest, channelsAfter, locksAfter, jobs, told⟩ := begun
  rw [ids, taken] at idsAfter
  rw [opChannels_operationPayload] at channelsAfter locksAfter jobs told
  rw [channels] at channelsAfter told
  rw [locks] at locksAfter
  refine ⟨idsAfter, ?_, fun c => ?_, fun c hc => ?_, fun c other => ?_, locksAfter, jobs, fun c hc events waiting => ?_⟩
  · rw [List.getLast?_map] at youngest
    obtain ⟨o, last, plan⟩ := Option.map_eq_some_iff.mp youngest
    obtain ⟨-, kind, samples, entries, current⟩ :=
      OpEngine.plan_eq (o := newOperation (s.beginTaking rest).ops.takenId .calibrate (operationPayload n cs)) plan
    refine ⟨o, last, kind, samples, current, entries.trans ?_⟩
    show (opChannels (operationPayload n cs)).map OpEntry.fresh = _
    rw [opChannels_operationPayload]
  · rw [channelsAfter]
    split <;> rfl
  · rw [channelsAfter, if_pos hc]
    rfl
  · rw [channelsAfter, if_neg other]
  · exact told (Nat.le_trans (Nat.add_le_add_right (loaded 16 waiting) 8) (by decide)) c hc events

end Sys2Proof.Machine
end

section
/-! The WINDOW detector in its zone states and UNKNOWN: the zone of a valid result and its debounce (R108, R111 to
R113). -/

namespace Sys2Proof.Machine

/-! ### The zone of a raw value (R108) -/

/-- Where a raw value stands in each zone between two limits (R108). -/
def Zone.Spans (low high raw : Nat) : Zone → Prop
  | .below => raw < low
  | .above => high < raw
  | .inside => low ≤ raw ∧ raw ≤ high

/-- The zone of a raw value is the one that spans it: with the limits in order, a value above the high one is not below
the low one. -/
theorem zoneOf_eq {w : WindowFields} {st : ChanState} (ordered : effectiveLow w st ≤ effectiveHigh w st) {raw : Nat}
    {z : Zone} (spans : z.Spans (effectiveLow w st) (effectiveHigh w st) raw) : zoneOf w st raw = z := by
  cases z with
  | below => exact if_pos spans
  | above =>
    have notBelow : ¬ raw < effectiveLow w st := not_lt_of_ge (ordered.trans (Nat.le_of_lt spans))
    exact (if_neg notBelow).trans (if_pos spans)
  | inside =>
    obtain ⟨notBelow, notAbove⟩ := spans
    exact (if_neg (not_lt_of_ge notBelow)).trans (if_neg (not_lt_of_ge notAbove))

/-! ### The debounce of a zone (R111 to R113) -/

/-- A return to INSIDE takes debounce off, an entry from UNKNOWN debounce on (R111, R112). -/
theorem zoneLimit_eq (k : ChannelConfig) (st : ChanState) (z : Zone) :
    zoneLimit k st z = if z = .inside ∧ st ≠ .unknown then k.debounceOff else k.debounceOn :=
  if_congr and_comm rfl rfl

section
variable {k : ChannelConfig} {raw : Nat} {l : LiveState} {z : Zone}

/-- A valid result in a zone state or UNKNOWN clears the fault count and is judged by its zone (R109, R111 to R113). -/
theorem detect_zone (window : k.detector = .window) (state : l.state ∈ Detector.window.counting) (isOpen : Bool)
    (raw : Nat) : detect k isOpen (.value raw) l = windowZone k raw { l with faultCount := 0 } := by
  simp only [Detector.counting, List.mem_cons, List.not_mem_nil, or_false] at state
  rcases state with state | state | state | state <;> simp only [detect, window, windowResult, windowValid, state]

/-- A result in the zone of the state clears the candidate (R113). -/
theorem windowZone_same (zone : zoneOf k.window l.state raw = z) (same : z.state = l.state) :
    windowZone k raw l = Verdict.quiet { l with candidate := none, debounce := 0 } := by
  subst zone
  exact if_pos same

/-- A result in another zone is a candidate until the count reaches the limit, and then enters the zone (R111, R112). -/
theorem windowZone_other (zone : zoneOf k.window l.state raw = z) (other : z.state ≠ l.state) :
    windowZone k raw l =
      if zoneLimit k l.state z ≤ candidateCount z l then
        Verdict.report { l with state := z.state, candidate := none, debounce := 0 } .zone (some (raw : Int))
      else Verdict.quiet { l with candidate := some z, debounce := candidateCount z l } := by
  subst zone
  exact if_neg other

end

/-- Settles O48: the result is in the zone that spans it; that zone is the state's own, or another one, counted or
entered. -/
theorem windowZones : Obligations.WindowZones := by
  intro k isOpen raw l z window state low high ordered spans count limit named
  have zone : zoneOf k.window l.state raw = z := zoneOf_eq ordered spans
  have name : z.state = named := by cases z <;> rfl
  have reached : zoneLimit k l.state z = limit := zoneLimit_eq k l.state z
  have own := windowZone_same (l := { l with faultCount := 0 }) zone
  have another := windowZone_other (l := { l with faultCount := 0 }) zone
  rw [detect_zone window state, ← name, ← reached]
  refine ⟨own, fun other few => ?_, fun other enough => ?_⟩
  · exact (another other).trans (if_neg (Nat.not_le_of_lt few))
  · exact (another other).trans (if_pos enough)

end Sys2Proof.Machine
end

section
/-! The refusals of CALIBRATE and MEASURE, whatever the kind: the operands, the checks in their order, and the refused
request (R125, R177, R180, R186). -/

namespace Sys2Proof.Machine

/-! ### The requests of the two kinds (R123, R186) -/

/-- The request kind that asks for an operation of a kind. -/
def OpKind.request : OpKind → RequestKind
  | .calibrate => .calibrate
  | .measure => .measure

/-- The command that takes a request for an operation of a kind. -/
def OpKind.command : OpKind → Instr
  | .calibrate => .calibrate
  | .measure => .measure

theorem exec_operation (k : OpKind) (s : State) : exec k.command s = .next (s.request k.request (serveOperation k)) := by
  cases k <;> rfl

/-- The channel count of an operation request spells the number of bytes behind it, so its length is right. -/
theorem OpKind.generic_request (k : OpKind) (n : Byte) {cs : List Byte} (short : cs.length < 256) :
    k.request.generic (n :: BitVec.ofNat 8 cs.length :: cs) = none := by
  have count : byteAt (n :: BitVec.ofNat 8 cs.length :: cs) 1 = cs.length := Nat.mod_eq_of_lt short
  have length : (n :: BitVec.ofNat 8 cs.length :: cs).length = 2 + cs.length := by
    rw [List.length_cons, List.length_cons]
    omega
  refine RequestKind.generic_none ?_ ?_
  · cases k <;> simp [OpKind.request, RequestKind.lengthOk, count, length]
  · cases k <;> rfl

/-- A request for an operation that a check refuses changes nothing but the reply (R125, R180). -/
theorem exec_operation_refused {k : OpKind} {f : Frame} {rest : List Frame} {s : State}
    (h : s.TakesNew k.request f rest) (generic : k.request.generic f.payload = none) {r : Refused}
    (refused : (s.beginTaking rest).refuseOperation k f.payload = some r) :
    exec k.command s = .next ((s.beginTaking rest).replied f r.reply) := by
  rw [exec_operation, State.request_new h, checked_of_generic _ _ generic]
  simp only [serveOperation, refused]

/-! ### The checks in their order (R125) -/

/-- The first channel number that is above 23 or named before, behind channels that are neither. -/
theorem badOpChannel_first {earlier pre : List Nat} {n : Nat} (range : ∀ m ∈ pre, m ≤ 23)
    (distinct : (earlier ++ pre).Nodup) (bad : 23 < n ∨ n ∈ earlier ++ pre) (post : List Nat) (offset : Nat) :
    badOpChannel earlier (pre ++ n :: post) offset = some (offset + pre.length) := by
  induction pre generalizing earlier offset with
  | nil =>
    rw [List.append_nil] at bad
    rw [List.nil_append, badOpChannel]
    by_cases above : 23 < n
    · exact if_pos above
    · rw [if_neg above, if_pos (by simpa using bad.resolve_left above)]
      rfl
  | cons m pre ih =>
    obtain ⟨low, range⟩ := List.forall_mem_cons.mp range
    have new : m ∉ earlier := fun old => (List.nodup_append.mp distinct).2.2 m old m List.mem_cons_self rfl
    rw [List.append_cons] at distinct bad
    rw [List.cons_append, badOpChannel, if_neg (Nat.not_lt_of_le low), if_neg (by simpa using new),
      ih range distinct bad, List.length_cons]
    congr 1
    omega

/-- The first channel whose state does not able the operation, behind channels whose states do. -/
theorem State.wrongOpChannel_first {k : OpKind} {s : State} {pre : List ChanId} {c : ChanId}
    (admits : ∀ d ∈ pre, s.admitsOp k d = true) (refused : s.admitsOp k c = false) (post : List ChanId) (offset : Nat) :
    s.wrongOpChannel k (pre ++ c :: post) offset = some (offset + pre.length) := by
  induction pre generalizing offset with
  | nil => exact if_neg (by simp [refused])
  | cons d pre ih =>
    obtain ⟨here, admits⟩ := List.forall_mem_cons.mp admits
    rw [List.cons_append, State.wrongOpChannel, if_pos here, ih admits, List.length_cons]
    congr 1
    omega

/-- The checks of an operation request whose samples and channel count are in their ranges. -/
theorem State.refuseOperation_counted {k : OpKind} {p : List Byte} (s : State)
    (samples : 1 ≤ byteAt p 0 ∧ byteAt p 0 ≤ k.maxSamples) (count : 1 ≤ byteAt p 1 ∧ byteAt p 1 ≤ 8) :
    s.refuseOperation k p =
      match badOpChannel [] (opChannelBytes p) 2 with
      | some offset => some (Refused.badValue offset)
      | none =>
        match s.wrongOpChannel k (opChannels p) 2 with
        | some offset => some { status := .wrongState, detail := codeByte offset }
        | none =>
          if Config.opCapacity ≤ s.ops.table.length then some { status := .noResource, detail := noOffset } else none :=
  (if_neg (by simp [inRange, samples])).trans (if_neg (by simp [inRange, count]))

/-- When the state of a channel admits an operation (R125 check 5). -/
theorem State.admitsOp_iff (k : OpKind) (c : ChanId) (s : State) :
    s.admitsOp k c = true ↔ s.channels[c].live.state ≠ .off ∧
      (k = .calibrate → s.channels[c].config.detector = .delta ∧ s.channels[c].live.state ≠ .calibrating) := by
  cases k with
  | measure => simp [State.admitsOp]
  | calibrate =>
    simp only [State.admitsOp, Bool.and_eq_true, beq_iff_eq, bne_iff_ne, true_implies]
    tauto

/-- Channels of an operation request that pass the checks of their numbers: all exist, and none is named twice. -/
theorem badOpChannel_named (n : Byte) {cs : List ChanId} (distinct : cs.Nodup) (offset : Nat) :
    badOpChannel [] (opChannelBytes (operationPayload n cs)) offset = none := by
  rw [opChannelBytes_operationPayload]
  refine badOpChannel_eq_none (fun m hm => ?_) (fun _ _ => List.not_mem_nil) (distinct.map Fin.val_injective) offset
  obtain ⟨c, -, rfl⟩ := List.mem_map.mp hm
  exact Nat.le_of_lt_succ c.isLt

/-! ### The refusals -/

/-- Settles O30: each refusal is the first check that fails in the state of the taking, which has the channels and as many
operations as the state before. -/
theorem operationRefusals : Obligations.OperationRefusals := by
  intro k f rest s n cs c kind most takes short payload u counts admits
  have command : c = k.command := by cases k <;> rfl
  have limit : most = k.maxSamples := by cases k <;> rfl
  have takes : s.TakesNew k.request f rest := by cases k <;> exact takes
  obtain ⟨channels, -⟩ := s.beginTaking_fields rest
  obtain ⟨-, -, -, -, -, ids, -⟩ := s.beginTaking_keeps rest
  have table : u.ops.table.length = s.ops.table.length := by simpa using congrArg List.length ids
  have samples : byteAt f.payload 0 = n.toNat := by rw [payload]; rfl
  have count : byteAt f.payload 1 = cs.length := by
    rw [payload]
    exact Nat.mod_eq_of_lt short
  have refuse {r : Refused} (refused : u.refuseOperation k f.payload = some r) : exec c s = .next (u.replied f r.reply) :=
    command ▸ exec_operation_refused takes (payload ▸ k.generic_request n short) refused
  have counted (h : counts) := u.refuseOperation_counted (k := k) (p := f.payload)
    (by rw [samples, ← limit]; exact ⟨h.1, h.2.1⟩) (by rw [count]; exact h.2.2)
  have able (ch : ChanId) : u.admitsOp k ch = true ↔ admits ch := by
    rw [State.admitsOp_iff, channels]
  refine ⟨fun outside => refuse (r := Refused.badValue 0) ?_,
    fun low high outside => refuse (r := Refused.badValue 1) ?_,
    fun inside pre x post split once range bad => refuse (r := Refused.badValue (2 + pre.length)) ?_,
    fun inside once chans named => ?_⟩
  · rw [limit] at outside
    rw [State.refuseOperation, samples, if_pos]
    simp only [inRange, Bool.not_eq_true', Bool.and_eq_false_iff, decide_eq_false_iff_not]
    omega
  · rw [State.refuseOperation, samples, ← limit, count, if_neg (by simp [inRange, low, high]), if_pos]
    simp only [inRange, Bool.not_eq_true', Bool.and_eq_false_iff, decide_eq_false_iff_not]
    omega
  · have bytes : opChannelBytes f.payload = pre.map BitVec.toNat ++ x.toNat :: post.map BitVec.toNat := by
      rw [payload, split, ← List.map_cons, ← List.map_append]
      rfl
    have first := badOpChannel_first (earlier := []) (pre := pre.map BitVec.toNat) (n := x.toNat)
      (List.forall_mem_map.mpr range) (once.map fun _ _ => BitVec.eq_of_toNat_eq)
      (bad.imp_right List.mem_map_of_mem) (post.map BitVec.toNat) 2
    rw [counted inside, bytes, first, List.length_map]
  · have payload : f.payload = operationPayload n chans := by rw [payload, named, List.length_map]; rfl
    have distinct : chans.Nodup := (named ▸ once).of_map _
    have checks := counted inside
    rw [payload, badOpChannel_named n distinct, opChannels_operationPayload, ← payload] at checks
    refine ⟨fun pre ch post split before fails =>
      refuse (r := { status := .wrongState, detail := codeByte (2 + pre.length) }) ?_,
      fun all full => refuse (r := { status := .noResource, detail := noOffset }) ?_⟩
    · have first := State.wrongOpChannel_first (fun d hd => (able d).mpr (before d hd))
        (Bool.eq_false_iff.mpr (mt (able ch).mp fails)) post 2
      rw [checks, split, first]
    · rw [checks, wrongOpChannel_eq_none fun ch hch => (able ch).mpr (all ch hch)]
      exact if_pos (table ▸ full)

end Sys2Proof.Machine
end

section
/-! MEASURE as the host sees it: the request, its effects and its reply (R124, R126, R177). -/

namespace Sys2Proof.Machine

/-! ### The round in progress (R69, R71) -/

/-- In settled inner blocks a round in progress has an entry outstanding: without one the scan partition is empty, and the
sequencer would have an entry to issue or to pass over, or the round to complete. -/
theorem State.Settled.outstanding {s : State} (h : s.Settled) (inRound : s.seq.inRound = true) :
    s.seq.outstanding ≠ [] := by
  intro none
  obtain ⟨going, stays, scan, -⟩ := s.producersRest_iff.mp h.producers
  have empty : s.scanWaiting = 0 := List.countP_eq_zero.mpr fun j hj => by
    have op := h.inner.coherent.allOps none j (State.mem_jobs.mpr (.inl hj))
    simpa [Job.isOp] using op
  have free : s.scanWaiting < Config.scanSlots := by rw [empty]; decide
  have inside : s.seq.issuePos < s.seq.list.length := Nat.lt_of_not_le fun issued =>
    absurd ((Sequencer.roundOver_iff _).mpr ⟨inRound, issued, none⟩) (by simp [going])
  have at_ : s.seq.atPosition = some s.seq.list[s.seq.issuePos] := by simp [Sequencer.atPosition, inRound, inside]
  rw [State.skipDue, at_] at stays
  simp only [State.scanSlotFree, free, decide_true, Bool.or_true, Bool.and_true, Bool.or_eq_false_iff,
    Bool.not_eq_false'] at stays
  obtain ⟨kept, scans⟩ := stays
  have issues := (s.nextScan_iff _).mpr ⟨at_, by simpa [Sequencer.dropped] using kept, scans, free⟩
  rw [scan] at issues
  cases issues

/-! ### The effects (R124, R126) -/

/-- `t` is `s` after a MEASURE with the payload `p` has been accepted. -/
structure State.MeasureBegun (p : List Byte) (s t : State) : Prop where
  ids : t.ops.table.map Operation.opId = s.ops.table.map Operation.opId ++ [s.ops.takenId]
  youngest : (t.ops.table.map Operation.plan).getLast? = some (newOperation s.ops.takenId .measure p)
  channels : t.channels = s.channels
  locks : t.locks = s.locks
  notices : t.notices = s.notices
  mode : t.seq.mode = s.seq.mode
  round : t.seq.round = s.seq.round

theorem State.Settled.measureBegun {s : State} (h : s.Settled) {p : List Byte} (accepts : s.Accepts .measure p)
    (mode : s.seq.mode ≠ .watch) : s.MeasureBegun p (s.startOperation .measure p) := by
  have distinct := (h.accept accepts mode).1.opsSound.1.2.1
  show s.MeasureBegun p (s.acceptOperation .measure p).drive
  have driven := State.Worked.drive (s.acceptOperation .measure p)
  have plans := State.samePlans_drive distinct
  have issued : s.Issued (s.acceptOperation .measure p).drive :=
    ((State.Issued.refl s).of_same (u := s.acceptOperation .measure p) rfl rfl rfl).drive h.outstanding
  refine ⟨driven.ids.trans List.map_append, ?_, issued.channels, driven.same.locks, issued.notices, ?_, ?_⟩
  · rw [plans.1]
    exact (congrArg List.getLast? List.map_append).trans List.getLast?_concat
  · rw [issued.seq]
  · rw [issued.seq]

/-! ### The request (R125, R126, R177) -/

/-- A MEASURE that no check of R125 refuses. -/
theorem State.accepts_measure {n : Byte} {cs : List ChanId} {s : State} (low : 1 ≤ n.toNat) (high : n.toNat ≤ 16)
    (nonempty : cs ≠ []) (few : cs.length ≤ 8) (distinct : cs.Nodup) (on : ∀ c ∈ cs, s.channels[c].live.state ≠ .off)
    (room : s.ops.table.length < 4) :
    s.refuseOperation .measure (operationPayload n cs) = none ∧ s.Accepts .measure (operationPayload n cs) := by
  obtain ⟨samples, count⟩ := byteAt_operationPayload n few
  have accepted : s.refuseOperation .measure (operationPayload n cs) = none := by
    rw [s.refuseOperation_counted ⟨samples ▸ low, samples ▸ high⟩
        ⟨count ▸ List.length_pos_iff.mpr nonempty, count ▸ few⟩,
      badOpChannel_named n distinct, opChannels_operationPayload,
      wrongOpChannel_eq_none fun c hc => (s.admitsOp_iff .measure c).mpr ⟨on c hc, fun other => by cases other⟩]
    exact if_neg (Nat.not_le_of_lt room)
  refine ⟨accepted, State.refuseOperation_none accepted ?_⟩
  rw [count]
  simp only [operationPayload, List.length_cons, List.length_map]
  omega

/-- An accepted request for an operation is carried out and answered ACCEPTED with the id taken. -/
theorem exec_operation_accepted {k : OpKind} {f : Frame} {rest : List Frame} {s : State}
    (h : s.TakesNew k.request f rest) (generic : k.request.generic f.payload = none)
    (accepted : (s.beginTaking rest).refuseOperation k f.payload = none) :
    exec k.command s =
      .next (State.replied f { status := .accepted, rest := [codeByte (s.beginTaking rest).ops.takenId] }
        ((s.beginTaking rest).startOperation k f.payload)) := by
  rw [exec_operation, State.request_new h, checked_of_generic _ _ generic]
  simp only [serveOperation, accepted]

/-- The taking of a request leaves the id that the next operation takes (R124). -/
theorem State.beginTaking_takenId (rest : List Frame) (s : State) :
    (s.beginTaking rest).ops.takenId = s.ops.takenId := by
  obtain ⟨-, -, -, -, -, ids, nextId⟩ := s.beginTaking_keeps rest
  exact OpEngine.takenId_congr ids nextId

/-- Settles O32: the state of the taking, in which no check refuses, the new operation, and the reply. -/
theorem measureStarts : Obligations.MeasureStarts := by
  intro f rest s n cs sound takes low high nonempty few distinct on room payload
  obtain ⟨channels, locks, -⟩ := s.beginTaking_fields rest
  obtain ⟨settled, mode⟩ := sound.settled.beginTaking rest
  obtain ⟨-, -, -, -, -, ids, -⟩ := s.beginTaking_keeps rest
  have taken := s.beginTaking_takenId rest
  have length : (s.beginTaking rest).ops.table.length = s.ops.table.length := by simpa using congrArg List.length ids
  obtain ⟨accepted, accepts⟩ := State.accepts_measure (s := s.beginTaking rest) low high nonempty few distinct
    (channels ▸ on) (length ▸ room)
  have payload : f.payload = operationPayload n cs := payload
  have generic : OpKind.measure.request.generic f.payload = none := payload ▸ generic_operationPayload n few
  have begun := settled.measureBegun accepts mode
  have same := (State.sameLink_kept (s.beginTaking rest)).startOperation .measure (operationPayload n cs)
    ⟨rfl, rfl, rfl, rfl, rfl⟩
  have carried := exec_operation_accepted (k := .measure) takes generic (payload ▸ accepted)
  rw [payload, taken] at carried
  refine ⟨_, carried, State.answered same, ?_⟩
  rw [State.replied_eq]
  dsimp only
  generalize (s.beginTaking rest).startOperation .measure (operationPayload n cs) = t at begun
  obtain ⟨idsAfter, youngest, channelsAfter, locksAfter, notices, modeAfter, round⟩ := begun
  rw [ids, taken] at idsAfter
  refine ⟨idsAfter, ?_, channelsAfter.trans channels, locksAfter.trans locks, notices, modeAfter, round⟩
  rw [List.getLast?_map] at youngest
  obtain ⟨o, last, plan⟩ := Option.map_eq_some_iff.mp youngest
  obtain ⟨-, kind, samples, entries, current⟩ :=
    OpEngine.plan_eq (o := newOperation (s.beginTaking rest).ops.takenId .measure (operationPayload n cs)) plan
  refine ⟨o, last, kind, samples, current, entries.trans ?_⟩
  show (opChannels (operationPayload n cs)).map OpEntry.fresh = _
  rw [opChannels_operationPayload]

end Sys2Proof.Machine
end

section
/-! A MEASURE sample whole: what it makes of the entry, of the operation and of the notice queue; the channels and the
locks stay (R130, R131, R133, R134). -/

namespace Sys2Proof.Machine

/-! ### The entry (R131) -/

/-- An entry joins a sample to its tallies and, with the last one, takes its outcome. -/
theorem OpEntry.sampled_measure {n : Nat} {e : OpEntry} (more : e.taken < n) (r : Reading) :
    e.sampled .measure n r =
      if (e.tally r).taken = n then
        { e.tally r with outcome := if (e.tally r).valid = 0 then .noSignal else .complete }
      else e.tally r := by
  have reached : n ≤ (e.tally r).taken ↔ (e.tally r).taken = n := by
    rw [(e.tally_parts r).2.2]
    omega
  exact if_congr reached rfl rfl

/-- The sum of an entry of a MEASURE operation, of 16 samples of 24 bits at most (R123, R131). -/
theorem OpEntry.Tallied.sum_le {n : Nat} {e : OpEntry} (h : e.Tallied n) (few : n ≤ 16) : e.sum ≤ 268435440 := by
  obtain ⟨valid, taken, sum, -⟩ := h
  exact sum.trans (Nat.mul_le_mul_right Config.rawMax ((valid.trans taken).trans few))

/-! ### The operation (R133) -/

/-- An operation whose first PENDING entry, if it has one, stands behind its current entry has nothing PENDING up to it. -/
theorem Operation.ended_of_passed {o : Operation} (inside : o.current < o.entries.length)
    (passed : ∀ i, firstPending 0 o.entries = some i → o.current < i) : o.Ended := by
  refine ⟨inside, fun e he => ?_⟩
  cases first : firstPending 0 o.entries with
  | none => exact firstPending_none.mp first e (List.mem_of_mem_take he)
  | some i =>
    have behind := passed i first
    obtain ⟨n, -, here, -, -, before⟩ := firstPending_some first
    exact before e (List.take_subset_take_left o.entries (by omega) he)

/-! ### The sample (R131) -/

/-- The tracker takes nothing of a MEASURE sample. -/
theorem State.takeSample_measure {s : State} (fits : s.ops.Fits) {o : Operation} (ho : o ∈ s.ops.table) {e : OpEntry}
    (kind : o.kind = .measure) (current : o.currentEntry = some e) (outstanding : o.outstanding = true) (r : Reading) :
    (s.takeSample o.opId o.current r).channels = s.channels ∧ (s.takeSample o.opId o.current r).locks = s.locks := by
  rw [State.takeSample_eq fits ho current outstanding, State.countSample, kind]
  split
  · exact ⟨rfl, rfl⟩
  · exact State.moveOn_parts _ _

/-- Settles O36: the entry after the sample; while samples are missing it stays, and with the last one the operation moves
on or leaves the table with its OP_DONE record. -/
theorem measureSampleCounted : Obligations.MeasureSampleCounted := by
  intro s o e r fits ho opFits kind outstanding current pending t e1 e2 entries
  obtain ⟨⟨-, few⟩, -, -, all⟩ := o.fits_iff.mp opFits
  rw [kind] at few
  obtain ⟨tallied, more⟩ := (OpEntry.fits_iff_tallied _ e).mp (all e (List.mem_of_getElem? current))
  have more := more (e.isPending_iff.mpr pending)
  have joined : e1 = e.tally r := by cases r <;> rfl
  have sampled : e.sampled o.kind o.samples r = e2 := by
    rw [kind, OpEntry.sampled_measure more, ← joined]
  have sum : e2.sum = e1.sum := by
    subst e2
    split <;> rfl
  obtain ⟨channels, locks⟩ := State.takeSample_measure fits ho kind current outstanding r
  obtain ⟨seq, queue, res, -, -⟩ := s.sampledInto_takeSample o.opId o.current r
  have last (complete : e1.taken = o.samples) : e2.isPending = false := by
    subst e2
    rw [if_pos complete]
    unfold OpEntry.isPending
    dsimp only
    split <;> rfl
  have ends (complete : e1.taken = o.samples) (passed : ∀ i, firstPending 0 entries = some i → o.current < i) :=
    State.takeSample_ended (u := { s with ops := s.ops.update (o.sampledWith e2) }) fits ho current outstanding sampled
      (Operation.ended_of_passed (o := o.sampledWith e2)
        ((List.getElem?_eq_some_iff.mp current).1.trans_eq List.length_set.symm) passed)
      (last complete) (by rw [kind]; rfl)
  refine ⟨channels, locks, seq, res, queue, fun raw reading small => ?_, fun missing => ?_,
    fun complete i first behind => ?_, fun complete none => ?_⟩
  · have tallied := OpEntry.tallied_tally tallied more (r := r) (by rw [reading]; rintro _ ⟨⟩; exact small)
    rw [sum, joined]
    exact tallied.sum_le few
  · have waits : e2 = e1 := if_neg missing
    have eq := State.takeSample_pending fits ho current outstanding sampled (by
      rw [waits, OpEntry.isPending_iff, joined, (e.tally_parts r).2.1, pending])
    subst t
    rw [eq]
    exact ⟨rfl, s.ops.update_table _⟩
  · have passed (j : Nat) (h : firstPending 0 entries = some j) : o.current < j :=
      Option.some.inj (first.symm.trans h) ▸ behind
    obtain ⟨notices, ops⟩ := (ends complete passed).2.2.1 i first
    exact ⟨notices, by rw [ops]; exact s.ops.update_table _⟩
  · have passed (j : Nat) (h : firstPending 0 entries = some j) : o.current < j := by
      rw [none] at h
      cases h
    obtain ⟨notices, ops⟩ := (ends complete passed).2.2.2 none
    rw [Operation.doneRecord_measure (o := o.sampledWith e2) kind] at notices
    exact ⟨by rw [ops]; rfl, notices⟩

end Sys2Proof.Machine
end

section
/-! The op id: the first free one within five steps, and what each request leaves of the next op id (R124, R177 to
R179). -/

namespace Sys2Proof.Machine

/-! ### The walk to a free id (R124) -/

/-- Where a free id comes within the steps of the walk, the walk stops at the first one. -/
theorem firstFreeId_first {table : List Operation} {fuel n : Nat}
    (free : ∃ k < fuel, nextOpId^[k] n ∉ table.map Operation.opId) :
    ∃ i < fuel, firstFreeId table fuel n = nextOpId^[i] n ∧ nextOpId^[i] n ∉ table.map Operation.opId ∧
      ∀ j < i, nextOpId^[j] n ∈ table.map Operation.opId := by
  induction fuel generalizing n with
  | zero =>
    obtain ⟨k, hk, -⟩ := free
    cases hk
  | succ fuel ih =>
    have held : (table.any fun o => o.opId == n) = true ↔ n ∈ table.map Operation.opId := by
      simp [List.any_eq_true]
    unfold firstFreeId
    by_cases here : n ∈ table.map Operation.opId
    · obtain ⟨k, hk, left⟩ := free
      obtain ⟨i, hi, stops, first, before⟩ := ih (n := nextOpId n) (by
        cases k with
        | zero => exact absurd here left
        | succ k => exact ⟨k, Nat.lt_of_succ_lt_succ hk, left⟩)
      rw [if_pos (held.mpr here)]
      refine ⟨i + 1, Nat.succ_lt_succ hi, stops, first, fun j hj => ?_⟩
      cases j with
      | zero => exact here
      | succ j => exact before j (Nat.lt_of_succ_lt_succ hj)
    · rw [if_neg (mt held.mp here)]
      exact ⟨0, Nat.succ_pos _, rfl, here, fun j hj => absurd hj (Nat.not_lt_zero j)⟩

/-- Among the ids of as many steps as there are operations and one more, one is free. -/
theorem OpEngine.Fits.free_comes {e : OpEngine} (h : e.Fits) :
    ∃ k < e.table.length + 1, nextOpId^[k] e.nextId ∉ e.table.map Operation.opId := by
  obtain ⟨length, -, -, low, high⟩ := h
  have length : e.table.length ≤ 4 := length
  by_contra all
  push Not at all
  have apart : Set.InjOn (fun k => nextOpId^[k] e.nextId) (Finset.range (e.table.length + 1)) := by
    intro a ha b hb same
    simp only [Finset.coe_range, Set.mem_Iio] at ha hb
    simp only [nextOpId_iterate ⟨low, high⟩] at same
    omega
  have count := Finset.card_le_card_of_injOn (t := (e.table.map Operation.opId).toFinset) _
    (fun k hk => List.mem_toFinset.mpr (all k (Finset.mem_range.mp hk))) apart
  have held := List.toFinset_card_le (e.table.map Operation.opId)
  rw [Finset.card_range] at count
  rw [List.length_map] at held
  omega

/-! ### What leaves the next op id -/

theorem State.withdraw_nextId (named : Job → Bool) (s : State) : (s.withdraw named).ops.nextId = s.ops.nextId := by
  have told (t : State) (j : Job) (ht : t.ops.nextId = s.ops.nextId) : (t.endWithout j).ops.nextId = s.ops.nextId := by
    unfold State.endWithout
    split
    · rw [(t.endReport_parts _ _).1]
      exact ht
    · exact (t.ops.jobEnded_ids _).2.trans ht
  refine State.withdraw_keeps (fun t => t.ops.nextId = s.ops.nextId) named (fun _ ht => ht) told (fun t u ht => ?_)
    (fun _ ht => ht) s rfl
  unfold State.abortUnit
  split
  · exact ht
  · split
    · exact told _ _ ht
    · exact ht

theorem State.fillFor_nextId (fuel : Nat) (s : State) : (s.fillFor fuel).ops.nextId = s.ops.nextId := by
  induction fuel generalizing s with
  | zero => rfl
  | succ fuel ih =>
    unfold State.fillFor
    split
    · exact (ih _).trans (State.Worked.issueSample _ s).nextId
    · rfl

theorem State.moveOn_nextId (o : Operation) (s : State) : (s.moveOn o).ops.nextId = s.ops.nextId := by
  unfold State.moveOn
  split <;> rfl

theorem State.cancelEntries_nextId (c : ChanId) (s : State) : (s.cancelEntries c).ops.nextId = s.ops.nextId := by
  refine List.foldlRecOn (motive := fun t : State => t.ops.nextId = s.ops.nextId) _ _ rfl fun t ht o _ => ?_
  unfold State.cancelIn
  dsimp only
  split
  · split
    · exact (State.moveOn_nextId _ _).trans ht
    · exact ht
  · exact ht

theorem State.reconfigure_nextId (c : ChanId) (k : ChannelConfig) (s : State) :
    (s.reconfigure c k).ops.nextId = s.ops.nextId := by
  have filled : ((s.withdraw fun j => j.channel == c).cancelEntries c).fillPartition.ops.nextId = s.ops.nextId :=
    (State.fillFor_nextId _ _).trans ((State.cancelEntries_nextId c _).trans (s.withdraw_nextId _))
  refine (State.Worked.drive _).nextId.trans ?_
  rw [(State.rewritten_books c k _).ops]
  exact filled

theorem State.startScan_nextId (m : SeqMode) (period : Nat) (s : State) :
    (s.startScan m period).ops.nextId = s.ops.nextId := by
  obtain ⟨-, -, abandoned, -⟩ := s.abandon_parts
  unfold State.startScan
  cases m with
  | stopped => exact abandoned
  | running | watch | single => exact (State.Worked.drive _).nextId.trans abandoned

theorem State.abortOperation_nextId (o : Operation) (s : State) : (s.abortOperation o).ops.nextId = s.ops.nextId := by
  rw [State.abortOperation_eq]
  refine (State.Worked.drive _).nextId.trans ?_
  show ((s.withdraw (Job.ofOp o.opId)).releaseAborted o).ops.nextId = _
  rw [(State.releaseAborted_books o _).ops]
  exact s.withdraw_nextId _

/-- An operation that starts takes its id, and the next op id becomes the one after it. -/
theorem State.startOperation_nextId (k : OpKind) (p : List Byte) (s : State) :
    (s.startOperation k p).ops.nextId = nextOpId s.ops.takenId := by
  unfold State.startOperation
  cases k with
  | measure => exact (State.Worked.drive _).nextId
  | calibrate =>
    refine (State.Worked.drive _).nextId.trans ?_
    exact List.foldlRecOn (motive := fun t : State => t.ops.nextId = nextOpId s.ops.takenId) _ _
      (State.withdraw_nextId _ (s.acceptOperation .calibrate p))
      fun t ht c _ => (congrArg OpEngine.nextId (t.startCalibration_books c).ops).trans ht

/-! ### No refusal answers ACCEPTED (R125, R179, R180) -/

theorem RequestKind.generic_status {k : RequestKind} {p : List Byte} {r : Refused} (h : k.generic p = some r) :
    r.status ≠ .accepted := by
  unfold RequestKind.generic at h
  split at h
  · split at h <;> cases h
    nofun
  · cases h; nofun

theorem State.refuseSetChannel_status {p : List Byte} {s : State} {r : Refused} (h : s.refuseSetChannel p = some r) :
    r.status ≠ .accepted := by
  unfold State.refuseSetChannel at h
  split at h
  · cases h; nofun
  · split at h
    · cases h; nofun
    · split at h
      · cases h; nofun
      · obtain ⟨offset, -, rfl⟩ := Option.map_eq_some_iff.mp h
        nofun

theorem State.refuseSetScan_status {p : List Byte} {s : State} {r : Refused} (h : s.refuseSetScan p = some r) :
    r.status ≠ .accepted := by
  unfold State.refuseSetScan at h
  split at h
  · cases h; nofun
  · split at h
    · cases h; nofun
    · obtain ⟨offset, -, rfl⟩ := Option.map_eq_some_iff.mp h
      nofun

theorem State.refuseScanStart_status {p : List Byte} {s : State} {r : Refused} (h : s.refuseScanStart p = some r) :
    r.status ≠ .accepted := by
  unfold State.refuseScanStart at h
  split at h
  · cases h; nofun
  · repeat' split at h
    all_goals cases h
    all_goals nofun

theorem State.refuseOperation_status {k : OpKind} {p : List Byte} {s : State} {r : Refused}
    (h : s.refuseOperation k p = some r) : r.status ≠ .accepted := by
  unfold State.refuseOperation at h
  repeat' split at h
  all_goals cases h
  all_goals nofun

/-! ### What a service does to the op id -/

/-- What a service makes of `t`: it places no reply itself, and takes an op id exactly when it answers ACCEPTED, with that
id (R124, R126). -/
structure State.CountsId (t : State) (served : State × Reply) : Prop where
  replies : served.1.handler.replies = t.handler.replies
  accepted : served.2.status = .accepted →
    served.2.rest = [codeByte t.ops.takenId] ∧ served.1.ops.nextId = nextOpId t.ops.takenId
  other : served.2.status ≠ .accepted → served.1.ops.nextId = t.ops.nextId

/-- An answer other than ACCEPTED. -/
theorem State.CountsId.of_other {t : State} {served : State × Reply} (status : served.2.status ≠ .accepted)
    (replies : served.1.handler.replies = t.handler.replies) (nextId : served.1.ops.nextId = t.ops.nextId) :
    t.CountsId served :=
  ⟨replies, fun accepted => absurd accepted status, fun _ => nextId⟩

/-- A service that counts ids, whatever the payload and the state. -/
def CountsIds (serve : List Byte → State → State × Reply) : Prop := ∀ p t, State.CountsId t (serve p t)

namespace CountsIds

theorem guarded {refuse : List Byte → State → Option Refused} {effect : List Byte → State → State}
    (refused : ∀ p t r, refuse p t = some r → r.status ≠ .accepted)
    (kept : ∀ p t, refuse p t = none → t.SameLink (effect p t) ∧ (effect p t).ops.nextId = t.ops.nextId) :
    CountsIds (Machine.guarded refuse effect) := by
  intro p t
  unfold Machine.guarded
  split
  · next r hr => exact .of_other (refused p t r hr) rfl rfl
  · next passed =>
    obtain ⟨⟨-, -, handler, -⟩, nextId⟩ := kept p t passed
    exact .of_other nofun (congrArg Handler.replies handler) nextId

theorem ping : CountsIds servePing := fun _ _ => .of_other nofun rfl rfl

theorem getStatus : CountsIds serveGetStatus := fun _ _ => .of_other nofun rfl rfl

theorem getScan : CountsIds serveGetScan := fun _ _ => .of_other nofun rfl rfl

theorem resetPart : CountsIds serveResetPart := fun _ _ => .of_other nofun rfl rfl

theorem setChannel : CountsIds serveSetChannel :=
  guarded (fun _ _ _ => State.refuseSetChannel_status) fun p t passed => by
    obtain ⟨-, -, range, consistent⟩ := State.refuseSetChannel_none passed
    exact ⟨t.sameLink_kept.reconfigure _ _ (configOf_valid range consistent) ⟨rfl, rfl, rfl, rfl, rfl⟩,
      t.reconfigure_nextId _ _⟩

theorem setScan : CountsIds serveSetScan :=
  guarded (fun _ _ _ => State.refuseSetScan_status) fun _ _ _ => ⟨⟨rfl, rfl, rfl, rfl, rfl⟩, rfl⟩

theorem scanStart : CountsIds serveScanStart :=
  guarded (fun _ _ _ => State.refuseScanStart_status) fun _ t _ =>
    ⟨t.sameLink_kept.startScan _ _ ⟨rfl, rfl, rfl, rfl, rfl⟩, t.startScan_nextId _ _⟩

theorem scanStop : CountsIds serveScanStop := fun _ t =>
  .of_other nofun (congrArg Handler.replies t.abandon_same.handler) t.abandon_parts.2.2.1

theorem setLink : CountsIds serveSetLink := fun p t => by
  unfold serveSetLink
  split <;> exact .of_other nofun rfl rfl

theorem getChannel : CountsIds serveGetChannel := fun p t => by
  unfold serveGetChannel
  split <;> exact .of_other nofun rfl rfl

theorem flush : CountsIds serveFlush := fun p t => by
  unfold serveFlush
  split <;> exact .of_other nofun rfl rfl

theorem abortOp : CountsIds serveAbortOp := fun p t => by
  unfold serveAbortOp
  split
  · exact .of_other nofun rfl rfl
  · next o _ =>
    obtain ⟨-, -, handler, -⟩ := t.sameLink_kept.abortOperation o ⟨rfl, rfl, rfl, rfl, rfl⟩
    exact .of_other nofun (congrArg Handler.replies handler) (t.abortOperation_nextId o)

theorem operation (k : OpKind) : CountsIds (serveOperation k) := fun p t => by
  unfold serveOperation
  split
  · next r refused => exact .of_other (State.refuseOperation_status refused) rfl rfl
  · obtain ⟨-, -, handler, -⟩ := t.sameLink_kept.startOperation k p ⟨rfl, rfl, rfl, rfl, rfl⟩
    exact ⟨congrArg Handler.replies handler, fun _ => ⟨rfl, t.startOperation_nextId k p⟩, fun other => absurd rfl other⟩

/-- The generic checks come first: what they refuse takes no id either. -/
theorem checked {serve : List Byte → State → State × Reply} (h : CountsIds serve) (k : RequestKind) (f : Frame)
    (t : State) : t.CountsId (checked k serve f t) := by
  unfold Machine.checked
  split
  · next r refused => exact .of_other (RequestKind.generic_status refused) rfl rfl
  · exact h f.payload t

end CountsIds

/-- Each command that takes a request of a defined kind carries it out by a service that counts ids. -/
theorem exec_request {c : Instr} {k : RequestKind} (hk : requestKindOf c = some k) :
    ∃ serve, CountsIds serve ∧ ∀ s, exec c s = .next (s.request k serve) := by
  cases c <;> simp only [requestKindOf, reduceCtorEq, Option.some.injEq] at hk <;> subst hk
  case ping => exact ⟨servePing, .ping, fun _ => rfl⟩
  case getStatus => exact ⟨serveGetStatus, .getStatus, fun _ => rfl⟩
  case setLink => exact ⟨serveSetLink, .setLink, fun _ => rfl⟩
  case setChannel => exact ⟨serveSetChannel, .setChannel, fun _ => rfl⟩
  case getChannel => exact ⟨serveGetChannel, .getChannel, fun _ => rfl⟩
  case setScan => exact ⟨serveSetScan, .setScan, fun _ => rfl⟩
  case getScan => exact ⟨serveGetScan, .getScan, fun _ => rfl⟩
  case scanStart => exact ⟨serveScanStart, .scanStart, fun _ => rfl⟩
  case scanStop => exact ⟨serveScanStop, .scanStop, fun _ => rfl⟩
  case calibrate => exact ⟨serveOperation .calibrate, .operation _, fun _ => rfl⟩
  case measure => exact ⟨serveOperation .measure, .operation _, fun _ => rfl⟩
  case abortOp => exact ⟨serveAbortOp, .abortOp, fun _ => rfl⟩
  case flushNotices => exact ⟨serveFlush, .flush, fun _ => rfl⟩
  case resetPart => exact ⟨serveResetPart, .resetPart, fun _ => rfl⟩

/-! ### Requests (R177 to R179) -/

/-- A request that the reply cache answers is not carried out (R178). -/
theorem State.request_cached {s : State} {k : RequestKind} {f reply : Frame} {rest : List Frame}
    (can : s.CanTake f rest) (kind : f.kind = k.code) (cached : s.handler.cached f = some reply)
    (serve : List Byte → State → State × Reply) : s.request k serve = (s.beginTaking rest).placeReply reply := by
  obtain ⟨waits, ready, room⟩ := can
  obtain ⟨-, -, -, -, handler, -⟩ := s.beginTaking_fields rest
  have cached : (s.beginTaking rest).handler.cached f = some reply := by
    rw [handler]
    exact cached
  unfold State.request State.takeRequest
  simp only [waits]
  rw [if_pos (by simp [Handler.canTake, ready, room, kind])]
  unfold State.answer
  simp only [cached]

/-- Settles O35: the resets, the walk to the first free id, and the requests, carried out or answered from the cache. -/
theorem opIdFirstFree : Obligations.OpIdFirstFree := by
  refine ⟨fun k speed c s reset => ⟨_, exec_reset reset, rfl, rfl⟩, fun e fits => ?_, fun c k f rest s hk takes => ?_,
    fun c k f reply rest s hk can kind cached => ?_⟩
  · obtain ⟨free, low, high⟩ := OpEngine.takenId_free fits
    obtain ⟨i, within, stops, -, before⟩ := firstFreeId_first fits.free_comes
    refine ⟨low, high, fun o ho same => free (same ▸ List.mem_map_of_mem ho), i, ?_, stops, fun j hj => ?_⟩
    · exact within.trans_le (Nat.succ_le_succ fits.1)
    · exact List.mem_map.mp (before j hj)
  · obtain ⟨serve, counts, carried⟩ := exec_request hk
    obtain ⟨replies, accepted, other⟩ := counts.checked k f (s.beginTaking rest)
    refine ⟨_, (Machine.checked k serve f (s.beginTaking rest)).2,
      (carried s).trans (congrArg _ (State.request_new takes serve)), ?_, fun status => ?_, fun status => ?_⟩
    · obtain ⟨-, -, -, -, handler, -⟩ := s.beginTaking_fields rest
      rw [State.replied_eq]
      dsimp only
      rw [replies, handler]
    · obtain ⟨id, nextId⟩ := accepted status
      rw [State.beginTaking_takenId] at id nextId
      rw [State.replied_eq]
      exact ⟨id, nextId⟩
    · obtain ⟨-, -, -, -, -, -, nextId⟩ := s.beginTaking_keeps rest
      rw [State.replied_eq]
      exact (other status).trans nextId
  · obtain ⟨serve, -, carried⟩ := exec_request hk
    obtain ⟨-, -, -, -, -, -, nextId⟩ := s.beginTaking_keeps rest
    exact ⟨_, (carried s).trans (congrArg _ (State.request_cached can kind cached serve)), nextId⟩

end Sys2Proof.Machine
end

section
/-! The arrival of a record at the notice queue, case by case: which reading it is written over, what it displaces at a
full queue, and what it leaves of the records that are not readings (R142 to R146). -/

namespace Sys2Proof.Machine

/-! ### Coalescing (R143) -/

/-- A new reading overwrites the first one of its channel, youngest first, that no STATE record of the channel comes
before. -/
theorem overwriteYoungest_eq_some_iff {new : ResultRecord} {p ps : List Record} :
    overwriteYoungest new p = some ps ↔
      ∃ younger old older, p = younger ++ .result old :: older ∧ old.channel = new.channel ∧
        (∀ z ∈ younger, z.isResultOf new.channel = false ∧ z.isStateOf new.channel = false) ∧
        ps = younger ++ .result new :: older := by
  constructor
  · intro h
    induction p generalizing ps with
    | nil => cases h
    | cons r rs ih =>
      unfold overwriteYoungest at h
      split at h
      · next reading =>
        cases h
        cases r with
        | result old => exact ⟨[], old, rs, rfl, by simpa [Record.isResultOf] using reading, by simp, rfl⟩
        | hello | state | opDone | scan => cases reading
      · next reading =>
        split at h
        · cases h
        · next state =>
          obtain ⟨qs, overwritten, rfl⟩ := Option.map_eq_some_iff.mp h
          obtain ⟨younger, old, older, rfl, same, quiet, rfl⟩ := ih overwritten
          exact ⟨r :: younger, old, older, rfl, same,
            List.forall_mem_cons.mpr ⟨⟨by simpa using reading, by simpa using state⟩, quiet⟩, rfl⟩
  · rintro ⟨younger, old, older, rfl, same, quiet, rfl⟩
    induction younger with
    | nil => simp [overwriteYoungest, Record.isResultOf, same]
    | cons r rs ih =>
      obtain ⟨⟨reading, state⟩, quiet⟩ := List.forall_mem_cons.mp quiet
      simp [overwriteYoungest, reading, state, ih quiet]

/-- A new reading coalesces exactly with the youngest one of its channel that no STATE record of the channel stands
after, and takes its place. -/
theorem coalesce_eq_some_iff {new : ResultRecord} {q rs : List Record} :
    coalesce new q = some rs ↔
      ∃ older old younger, q = older ++ .result old :: younger ∧ old.channel = new.channel ∧
        (∀ z ∈ younger, z.isResultOf new.channel = false ∧ z.isStateOf new.channel = false) ∧
        rs = older ++ .result new :: younger := by
  unfold coalesce
  rw [Option.map_eq_some_iff]
  constructor
  · rintro ⟨ps, overwritten, rfl⟩
    obtain ⟨younger, old, older, reversed, same, quiet, rfl⟩ := overwriteYoungest_eq_some_iff.mp overwritten
    refine ⟨older.reverse, old, younger.reverse, ?_, same, fun z hz => quiet z (List.mem_reverse.mp hz), by simp⟩
    simpa using congrArg List.reverse reversed
  · rintro ⟨older, old, younger, rfl, same, quiet, rfl⟩
    exact ⟨younger.reverse ++ .result new :: older.reverse,
      overwriteYoungest_eq_some_iff.mpr ⟨younger.reverse, old, older.reverse, by simp, same,
        fun z hz => quiet z (List.mem_reverse.mp hz), rfl⟩, by simp⟩

/-- Only a reading coalesces. -/
theorem coalesceRecord_other {r : Record} (kind : r.isResult = false) (q : List Record) :
    coalesceRecord r q = none := by
  cases r with
  | result => cases kind
  | hello | state | opDone | scan => rfl

/-- A reading written over an older one leaves the records that are not readings. -/
theorem coalesceRecord_others {r : Record} {q rs : List Record} (h : coalesceRecord r q = some rs) :
    r.isResult = true ∧ rs.length = q.length ∧
      rs.filter (fun x => !x.isResult) = q.filter (fun x => !x.isResult) := by
  cases r with
  | hello | state | opDone | scan => cases h
  | result new =>
    obtain ⟨older, old, younger, rfl, -, rfl⟩ := coalesce_some h
    exact ⟨rfl, by simp, by simp [Record.isResult]⟩

/-! ### The oldest reading (R145) -/

/-- Which reading gives way: the first one, oldest first. -/
theorem withoutOldestResult_eq_some_iff {q rest : List Record} :
    withoutOldestResult q = some rest ↔
      ∃ older x younger, q = older ++ .result x :: younger ∧ (∀ y ∈ older, y.isResult = false) ∧
        rest = older ++ younger := by
  constructor
  · intro h
    induction q generalizing rest with
    | nil => cases h
    | cons r rs ih =>
      unfold withoutOldestResult at h
      split at h
      · next reading =>
        cases h
        cases r with
        | result x => exact ⟨[], x, rs, rfl, by simp, rfl⟩
        | hello | state | opDone | scan => cases reading
      · next reading =>
        obtain ⟨left, taken, rfl⟩ := Option.map_eq_some_iff.mp h
        obtain ⟨older, x, younger, rfl, others, rfl⟩ := ih taken
        exact ⟨r :: older, x, younger, rfl, List.forall_mem_cons.mpr ⟨by simpa using reading, others⟩, rfl⟩
  · rintro ⟨older, x, younger, rfl, others, rfl⟩
    induction older with
    | nil => rfl
    | cons r rs ih =>
      obtain ⟨other, others⟩ := List.forall_mem_cons.mp others
      simp [withoutOldestResult, other, ih others]

/-- Where no reading waits, none gives way. -/
theorem withoutOldestResult_eq_none {q : List Record} (others : ∀ y ∈ q, y.isResult = false) :
    withoutOldestResult q = none := by
  rw [Option.eq_none_iff_forall_ne_some]
  intro rest taken
  obtain ⟨older, x, younger, rfl, -, -⟩ := withoutOldestResult_eq_some_iff.mp taken
  cases others (.result x) (List.mem_append_right _ List.mem_cons_self)

theorem withoutOldestResult_others {q rest : List Record} (h : withoutOldestResult q = some rest) :
    rest.filter (fun x => !x.isResult) = q.filter (fun x => !x.isResult) := by
  obtain ⟨older, x, younger, rfl, -, rfl⟩ := withoutOldestResult_eq_some_iff.mp h
  simp [Record.isResult]

/-! ### Arrivals (R142 to R146) -/

section
variable {q : NoticeQueue} {r : Record}

theorem NoticeQueue.arrive_coalesced {rs : List Record} (h : coalesceRecord r q.records = some rs) :
    q.arrive r = ({ q with records := rs }, true) := by
  simp only [NoticeQueue.arrive, h]

theorem NoticeQueue.arrive_room (h : coalesceRecord r q.records = none)
    (room : q.records.length < Config.noticeCapacity) :
    q.arrive r = ({ q with records := q.records ++ [r] }, true) := by
  simp only [NoticeQueue.arrive, h, if_pos room]

theorem NoticeQueue.arrive_full (h : coalesceRecord r q.records = none)
    (full : q.records.length = Config.noticeCapacity) : q.arrive r = q.arriveFull r := by
  simp only [NoticeQueue.arrive, h, if_neg full.not_lt]

/-- A reading that finds the queue full and nothing to overwrite is discarded and counted (R144). -/
theorem NoticeQueue.arrive_reading_full {x : ResultRecord} (h : coalesce x q.records = none)
    (full : q.records.length = Config.noticeCapacity) :
    q.arrive (.result x) = ({ q with tally := q.tally.countResult }, false) :=
  NoticeQueue.arrive_full h full

/-- Another record that finds the queue full and no reading in it is discarded and counted by its kind (R145). -/
theorem NoticeQueue.arrive_discarded (kind : r.isResult = false) (full : q.records.length = Config.noticeCapacity)
    (others : ∀ y ∈ q.records, y.isResult = false) :
    q.arrive r = ({ q with tally := q.tally.countDiscard r }, false) := by
  rw [NoticeQueue.arrive_full (coalesceRecord_other kind _) full]
  simp only [NoticeQueue.arriveFull, kind, withoutOldestResult_eq_none others]
  rfl

/-- Another record that finds the queue full displaces the oldest reading, which is counted (R145). -/
theorem NoticeQueue.arrive_displaces {rest : List Record} (kind : r.isResult = false)
    (full : q.records.length = Config.noticeCapacity) (taken : withoutOldestResult q.records = some rest) :
    q.arrive r = ({ records := rest ++ [r], tally := q.tally.countResult }, true) := by
  rw [NoticeQueue.arrive_full (coalesceRecord_other kind _) full]
  simp only [NoticeQueue.arriveFull, kind, taken]
  rfl

end

/-- No arrival takes the queue over its 32 records (R145). -/
theorem NoticeQueue.fits_arrive {q : NoticeQueue} (fits : q.Fits) (r : Record) : (q.arrive r).1.Fits := by
  obtain ⟨rs, hc, e⟩ | ⟨-, room, e⟩ | ⟨-, -, -, e⟩ | ⟨rest, -, -, -, taken, e⟩ | ⟨-, -, -, -, e⟩ :=
    NoticeQueue.arrive_cases r q <;> rw [e]
  · exact (coalesceRecord_others hc).2.1.trans_le fits
  · simpa [NoticeQueue.Fits] using room
  · exact fits
  · have := withoutOldestResult_length taken
    simp only [NoticeQueue.Fits, List.length_append, List.length_singleton]
    omega
  · exact fits

/-- The records that are not readings stay in their order; one that is placed joins them at the young end (R143,
R145). -/
theorem NoticeQueue.arrive_others (q : NoticeQueue) (r : Record) :
    (q.arrive r).1.records.filter (fun x => !x.isResult) =
      q.records.filter (fun x => !x.isResult) ++ (if (q.arrive r).2 && !r.isResult then [r] else []) := by
  obtain ⟨rs, hc, e⟩ | ⟨-, -, e⟩ | ⟨-, -, -, e⟩ | ⟨rest, -, -, other, taken, e⟩ | ⟨-, -, -, -, e⟩ :=
    NoticeQueue.arrive_cases r q <;> rw [e]
  · obtain ⟨reading, -, same⟩ := coalesceRecord_others hc
    simp [reading, same]
  · simp [List.filter_cons]
  · simp
  · simp [other, withoutOldestResult_others taken]
  · simp

/-- A channel whose reading is not placed keeps its last reported value (R119, R144). -/
theorem State.addResultRecord_unplaced {s : State} {c : ChanId} {round : Nat} {r : Reading}
    (unplaced : (s.notices.arrive (.result (resultRecord c round r s.channels[c].live))).2 = false) :
    (s.addResultRecord c round r).channels[c].live = s.channels[c].live := by
  unfold State.addResultRecord
  dsimp only
  split
  · rw [State.setLive_live, unplaced]
    rfl
  · rfl

/-- Settles O50: the bound, a reading that finds no room, and another record with or without a reading to
displace. -/
theorem fullQueueArrival : Obligations.FullQueueArrival := by
  refine ⟨fun q r fits => NoticeQueue.fits_arrive fits r,
    fun q x full apart => NoticeQueue.arrive_reading_full apart full,
    fun s c round r full apart => ?_, fun q r older younger x full kind records others => ?_,
    fun q x full others => NoticeQueue.arrive_discarded rfl full others, fun q r full others kind => ?_⟩
  · rw [State.addResultRecord_unplaced (by rw [NoticeQueue.arrive_reading_full apart full])]
  · exact NoticeQueue.arrive_displaces kind full
      (withoutOldestResult_eq_some_iff.mpr ⟨older, x, younger, records, others, rfl⟩)
  · obtain ⟨x, rfl⟩ | ⟨e, n, rfl⟩ := kind <;> exact NoticeQueue.arrive_discarded rfl full others

/-- Settles O51: where a reading coalesces, where a record is appended, and what stays of the other records. -/
theorem readingsAloneGiveWay : Obligations.ReadingsAloneGiveWay := by
  refine ⟨⟨fun q x y older younger same records quiet => ?_, fun q r room apart => ?_⟩, NoticeQueue.arrive_others⟩
  · exact NoticeQueue.arrive_coalesced (coalesce_eq_some_iff.mpr ⟨older, y, younger, records, same, quiet, rfl⟩)
  · refine NoticeQueue.arrive_room (Option.eq_none_iff_forall_ne_some.mpr fun rs coalesced => ?_) room
    cases r with
    | hello | state | opDone | scan => cases coalesced
    | result x =>
      obtain ⟨older, y, younger, records, same, quiet, -⟩ := coalesce_eq_some_iff.mp coalesced
      obtain ⟨z, hz, state⟩ := apart x rfl older y younger records same fun z hz => (quiet z hz).1
      rw [(quiet z hz).2] at state
      cases state

/-! ### What every step keeps (R143, R145, R146) -/

/-- Settles O53: each single change of a block keeps the bounds, and so does every step. -/
theorem noticeQueueSoundKept : Obligations.NoticeQueueSoundKept :=
  fun _ _ fits stretched tally stepped => State.noticesSound_kept.of_step ⟨fits, stretched, tally⟩ stepped

end Sys2Proof.Machine
end

section
/-! The notices on their way out: what FLUSH_NOTICES discards, the first transmission, the HELLO record after a reset,
and the link while RESET is held low (R147 to R154, R163 to R167). -/

namespace Sys2Proof.Machine

/-! ### FLUSH_NOTICES (R151, R152) -/

/-- The in-flight set discarded, with the pass that it ends at a frame boundary, in one piece. -/
theorem Delivery.flushed_eq {scope : FlushScope} (inFlight : scope ≠ .queue) (boundary : Bool) (d : Delivery) :
    d.flushed scope boundary =
      { d with
        inFlight := [], passSet := [], ackTimer := none, retries := 0
        state := if d.state = .resend ∧ boundary = true then .opened else d.state } := by
  have discarded : d.flushed scope boundary = if boundary then d.discardInFlight.atBoundary else d.discardInFlight := by
    cases scope with
    | queue => exact absurd rfl inFlight
    | inFlight | both => rfl
  rw [discarded]
  cases boundary with
  | false => simp [Delivery.discardInFlight]
  | true =>
    by_cases resend : d.state = .resend <;>
      simp [Delivery.atBoundary, Delivery.discardInFlight, Delivery.endPass, resend]

/-- FLUSH_NOTICES carried out by its scope, or refused where the byte names none. -/
theorem exec_flushNotices {f : Frame} {rest : List Frame} {s : State} {b : Byte} (h : s.TakesNew .flushNotices f rest)
    (payload : f.payload = [b]) :
    exec .flushNotices s = .next
      (match flushScope b.toNat with
        | some scope => State.replied f Reply.ok ((s.beginTaking rest).flush scope)
        | none => (s.beginTaking rest).replied f (Refused.badValue 0).reply) := by
  have generic : RequestKind.flushNotices.generic f.payload = none := by rw [payload]; rfl
  show Host.Outcome.next (s.request .flushNotices serveFlush) = _
  rw [State.request_new h, checked_of_generic _ _ generic, payload]
  show Host.Outcome.next (State.replied f (serveFlush [b] _).2 (serveFlush [b] _).1) = _
  simp only [serveFlush, show byteAt [b] 0 = b.toNat from rfl]
  cases flushScope b.toNat <;> rfl

theorem flushScope_none : ∀ {n : Nat}, n = 0 ∨ 3 < n → flushScope n = none
  | 0, _ => rfl
  | 1, h | 2, h | 3, h => by omega
  | _ + 4, _ => rfl

/-- Settles O34: each scope, and the bytes that name none. -/
theorem flushDiscards : Obligations.FlushDiscards := by
  intro f rest s b h payload u ok cleared dropped
  have taken := exec_flushNotices h payload
  obtain ⟨-, -, line, -⟩ := s.beginTaking_fields rest
  have flushed {scope : FlushScope} (inFlight : scope ≠ .queue) :
      u.delivery.flushed scope u.line.tx.isNone = dropped := by
    rw [Delivery.flushed_eq inFlight, line]
    simp only [Option.isNone_iff_eq_none]
    rfl
  refine ⟨fun e => ?_, fun e => ?_, fun e => ?_, fun e => ?_⟩
  · subst e
    exact taken
  · subst e
    rw [← flushed (scope := .inFlight) (by decide)]
    exact taken
  · subst e
    rw [← flushed (scope := .both) (by decide)]
    exact taken
  · rw [taken, flushScope_none e]
    rfl

/-! ### The first transmission (R147, R148, R163, R166) -/

theorem Tally.isEmpty_iff (t : Tally) : t.isEmpty = true ↔ t = Tally.zero := by
  obtain ⟨results, states, others⟩ := t
  simp [Tally.isEmpty, Tally.zero, and_assoc]

theorem Tally.isEmpty_false_iff (t : Tally) : t.isEmpty = false ↔ t ≠ Tally.zero := by
  rw [← Bool.not_eq_true, t.isEmpty_iff]

theorem NoticeQueue.offer_overflow {q : NoticeQueue} (counted : q.tally ≠ Tally.zero) :
    q.offer = some (.overflow q.tally, { q with tally := Tally.zero }) := by
  unfold NoticeQueue.offer
  rw [if_neg (by rw [q.tally.isEmpty_false_iff.mpr counted]; decide)]

theorem NoticeQueue.offer_head {q : NoticeQueue} {r : Record} {rest : List Record} (empty : q.tally = Tally.zero)
    (records : q.records = r :: rest) : q.offer = some (.record r, { q with records := rest }) := by
  unfold NoticeQueue.offer
  rw [if_pos (q.tally.isEmpty_iff.mpr empty), records]

theorem NoticeQueue.offer_none {q : NoticeQueue} (empty : q.tally = Tally.zero) (records : q.records = []) :
    q.offer = none := by
  unfold NoticeQueue.offer
  rw [if_pos (q.tally.isEmpty_iff.mpr empty), records]

/-- A notice that is offered goes out where delivery and the line are free for it. -/
theorem exec_firstTransmission {s : State} {body : NoticeBody} {q : NoticeQueue}
    (offered : s.notices.offer = some (body, q)) (line : s.line.tx = none) (released : s.resetHeld = false)
    (replies : s.handler.replies = []) (opened : s.delivery.state = .opened)
    (room : s.delivery.inFlight.length < s.delivery.params.window) :
    exec .firstTransmission s = .next
      (State.transmit .first (Notice.frame { seq := s.delivery.nextSeq, body := body })
        { s with notices := q, delivery := s.delivery.send body }) := by
  show execFirstTransmission s = _
  simp only [execFirstTransmission, offered]
  rw [if_pos (by simp [State.txFree, Delivery.mayFirst, line, released, replies, opened, room])]

/-- No notice goes out for the first time where the transmitter, the replies or delivery do not let it. -/
theorem exec_firstTransmission_none {s : State}
    (h : (s.txFree && s.handler.replies.isEmpty && s.delivery.mayFirst) = false) :
    exec .firstTransmission s = .next s := by
  show execFirstTransmission s = _
  unfold execFirstTransmission
  split
  · rfl
  · simp only [h]
    rfl

/-! ### After a reset (R149, R150, R164, R165) -/

section
variable (k : ResetKind) (speed : LineSpeed) {p : LinkParams} (s : State)

@[simp] theorem State.afterReset_resetHeld (held : Bool) : (s.afterReset k speed p held).resetHeld = held := rfl

/-- With notices enabled the HELLO record goes out first, with number 1 (R150, R164). -/
theorem State.afterReset_sendsHello (enabled : p.notices = true) (window : 1 ≤ p.window) :
    exec .firstTransmission (s.afterReset k speed p false) = .next
      (State.transmit .first (Notice.frame { seq := 1, body := .record (.hello k speed) })
        { s.afterReset k speed p false with
          notices := { records := [], tally := Tally.zero }
          delivery := (Delivery.reset p).send (.record (.hello k speed)) }) :=
  exec_firstTransmission (NoticeQueue.offer_head rfl rfl) rfl rfl rfl (if_pos enabled) window

/-- With notices disabled the HELLO record waits in HOLD (R164, R165). -/
theorem State.afterReset_holdsHello (disabled : p.notices = false) (held : Bool) :
    (s.afterReset k speed p held).delivery.state = .hold ∧
      exec .firstTransmission (s.afterReset k speed p held) = .next (s.afterReset k speed p held) := by
  have hold : (Delivery.reset p).state = .hold := if_neg (by simp [disabled])
  exact ⟨hold, exec_firstTransmission_none (by simp [Delivery.mayFirst, hold])⟩

end

/-- Settles O3: the HELLO record is alone after a reset, and goes out in OPEN or waits in HOLD. -/
theorem resetsPlaceHelloAlone : Obligations.ResetsPlaceHelloAlone := by
  intro k speed c s h window
  refine ⟨_, exec_reset h, rfl, rfl, rfl, by cases k <;> rfl, fun released => ?_, fun enabled released => ?_,
    fun disabled => State.afterReset_holdsHello k speed s disabled _⟩
  · exact (State.attn_iff _).mpr ⟨released, .inl (List.cons_ne_nil _ _)⟩
  · rw [State.afterReset_resetHeld] at released
    rw [released]
    refine ⟨_, State.afterReset_sendsHello k speed s enabled ?_, rfl, rfl, rfl⟩
    cases k with
    | power | pin => exact Nat.le_add_left 1 1
    | soft => exact window

/-! ### While RESET is held low (R154, R156, R163) -/

section
variable {s : State}

theorem State.byteEvent_held (held : s.resetHeld = true) (b : Byte) : s.byteEvent b = none := by
  simp [State.byteEvent, held]

theorem State.txFree_held (held : s.resetHeld = true) : s.txFree = false := by
  simp [State.txFree, held]

/-- No byte is read while RESET is held low (R156). -/
theorem exec_receiving_held (held : s.resetHeld = true) (b : Byte) :
    exec (.byteReceived b) s = .next s ∧ exec (.ack b) s = .next s ∧ exec (.requestFrameArrival b) s = .next s ∧
      exec (.foreignFrame b) s = .next s ∧ exec (.lengthDiscard b) s = .next s ∧ exec (.crcMismatch b) s = .next s := by
  simp [exec, execByteReceived, execAck, execRequestFrameArrival, execForeignFrame, execLengthDiscard, execCrcMismatch,
    State.byteEvent_held held]

/-- Nothing is sent while RESET is held low, and no gap is timed (R163). -/
theorem exec_sending_held (held : s.resetHeld = true) :
    exec .gapTimeout s = .next s ∧ exec .replyTransmission s = .next s ∧ exec .firstTransmission s = .next s ∧
      exec .noticeResend s = .next s := by
  have free := State.txFree_held held
  refine ⟨?_, ?_, exec_firstTransmission_none (by simp [free]), ?_⟩
  · simp [exec, execGapTimeout, held]
  · show execReplyTransmission s = _
    unfold execReplyTransmission
    split <;> simp [free]
  · show execNoticeResend s = _
    unfold execNoticeResend
    split <;> simp [free]

end

/-- Settles O6: the link's commands while RESET is held low, and the pin ATTN in every state. -/
theorem resetHeldLowSilencesLink : Obligations.ResetHeldLowSilencesLink := by
  refine ⟨fun s => ⟨_, rfl, rfl, rfl, rfl, fun c link => ?_⟩,
    fun s => ⟨?_, rfl, fun others => s.attnLine_high_iff others⟩⟩
  · have held : State.resetHeld { s with line := { s.line with tx := none }, resetHeld := true } = true := rfl
    obtain ⟨gap, reply, first, resend⟩ := exec_sending_held held
    obtain rfl | rfl | rfl | rfl | rfl | ⟨b, byte⟩ := link
    · exact gap
    · exact reply
    · exact first
    · exact resend
    · rfl
    · obtain ⟨received, ack, arrival, foreign, length, crc⟩ := exec_receiving_held held b
      obtain rfl | rfl | rfl | rfl | rfl | rfl := byte
      exacts [received, ack, arrival, foreign, length, crc]
  · rw [s.attn_iff, s.notices.tally.isEmpty_false_iff]
    rfl

end Sys2Proof.Machine
end

section
/-! The bytes of a notice: each record and the tally as the layouts and the code tables spell them (R185, R187,
R188). -/

namespace Sys2Proof.Machine

/-! ### Fields as single bytes (R185) -/

theorem bytesLE_three (n : Nat) :
    bytesLE 3 n = [BitVec.ofNat 8 n, BitVec.ofNat 8 (n / 256), BitVec.ofNat 8 (n / 65536)] := by
  simp only [bytesLE, Nat.div_div_eq_div_mul]

/-- Two's complement byte by byte. -/
theorem signedLE_bytes (z : Int) :
    signedLE z =
      [BitVec.ofInt 8 z, BitVec.ofInt 8 (z / 256), BitVec.ofInt 8 (z / 65536), BitVec.ofInt 8 (z / 16777216)] := by
  simp only [signedLE, bytesLE, Nat.div_div_eq_div_mul, List.cons.injEq, and_true, ← BitVec.toNat_inj,
    BitVec.toNat_ofNat, BitVec.toNat_ofInt]
  omega

/-- A flags byte of two flags. -/
theorem flagsByte_two (a b : Bool) : flagsByte [a, b] = BitVec.ofNat 8 (a.toNat + 2 * b.toNat) := by
  cases a <;> cases b <;> rfl

/-- The flags of a RESULT record as a number. -/
theorem ResultRecord.flags_eq (x : ResultRecord) :
    x.flags =
      BitVec.ofNat 8 (x.noSignal.toNat + 2 * x.overrange.toNat + 4 * x.suppressed.toNat + 16 * x.raw.isSome.toNat +
        32 * x.baseline.isSome.toNat + 64 * x.signal.isSome.toNat) := by
  unfold ResultRecord.flags flagsByte codeByte
  congr 1
  simp only [List.foldr_cons, List.foldr_nil, Bool.toNat_false]
  omega

/-- An entry of an OP_DONE record, 13 bytes. -/
theorem OpDoneEntry.bytes_eq (e : OpDoneEntry) :
    e.bytes =
      [BitVec.ofNat 8 e.channel.val, BitVec.ofNat 8 e.outcome.code,
          BitVec.ofNat 8 (e.first.isSome.toNat + 2 * e.minMax.isSome.toNat), BitVec.ofNat 8 e.validCount] ++
        bytesLE 3 (e.first.getD 0) ++ bytesLE 3 (e.minMax.getD (0, 0)).1 ++ bytesLE 3 (e.minMax.getD (0, 0)).2 := by
  have parts : (e.minMax.map (·.1)).getD 0 = (e.minMax.getD (0, 0)).1 ∧
      (e.minMax.map (·.2)).getD 0 = (e.minMax.getD (0, 0)).2 := by
    cases e.minMax <;> exact ⟨rfl, rfl⟩
  unfold OpDoneEntry.bytes optionalLE
  rw [flagsByte_two, parts.1, parts.2]
  rfl

/-! ### The notices (R187, R188) -/

theorem Notice.frame_eq {seq : Nat} {body : NoticeBody} {kind : Byte} {payload : List Byte} (hk : body.kind = kind)
    (hp : body.payload = payload) :
    Notice.frame { seq := seq, body := body } = { kind := kind, tag := BitVec.ofNat 8 seq, payload := payload } := by
  rw [← hk, ← hp]
  rfl

/-- Settles O12: which notice goes out, and its frame by the kind of its record. -/
theorem firstTransmission : Obligations.FirstTransmission := by
  refine ⟨?_, ?_, rfl, rfl, rfl⟩
  · intro s line released replies opened room sent
    refine ⟨fun counted => ?_, fun empty r rest records => ?_, fun empty records => ?_⟩
    · exact exec_firstTransmission (NoticeQueue.offer_overflow counted) line released replies opened room
    · exact exec_firstTransmission (NoticeQueue.offer_head empty records) line released replies opened room
    · show execFirstTransmission s = _
      simp only [execFirstTransmission, NoticeQueue.offer_none empty records]
  · intro seq u8 u16 u24 i32 sent
    refine ⟨?_, ?_, ?_, ?_, ?_, ?_⟩
    · intro k speed
      refine Notice.frame_eq rfl ?_
      cases k <;> cases speed <;> rfl
    · intro x
      refine Notice.frame_eq rfl ?_
      simp only [NoticeBody.payload, Record.payload, flagsByte_two, optionalLE, optionalSignedLE, signedLE_bytes]
      rfl
    · intro x
      refine Notice.frame_eq rfl ?_
      simp only [NoticeBody.payload, Record.payload, x.flags_eq, optionalLE, optionalSignedLE, signedLE_bytes,
        bytesLE_three]
      rfl
    · intro x
      refine Notice.frame_eq rfl ?_
      simp only [NoticeBody.payload, Record.payload, funext OpDoneEntry.bytes_eq, bytesLE_three]
      cases x.kind <;> rfl
    · intro event round
      refine Notice.frame_eq rfl ?_
      cases event with
      | done | overrun => rfl
      | woke reason => cases reason <;> rfl
    · exact fun x => Notice.frame_eq rfl rfl

end Sys2Proof.Machine
end

section
/-! The bytes of a frame at the receiver: what each of them does, the discards, and that a frame sent is received as that
frame (R157 to R162). -/

namespace Sys2Proof.Machine

/-! ### The events of bytes (R159, R162) -/

section
variable {s : State} {b : Byte}

/-- While RESET is released a byte does what the receiver makes of it. -/
theorem State.byteEvent_released (released : s.resetHeld = false) (b : Byte) :
    s.byteEvent b = some (s.line.receiver.take b) := by
  simp [State.byteEvent, released]

variable (released : s.resetHeld = false)
include released

theorem exec_byteReceived {r : Receiver} (h : s.line.receiver.take b = .advance r) :
    exec (.byteReceived b) s = .next (s.setReceiver r) := by
  simp only [exec, execByteReceived, State.byteEvent_released released, h]

theorem exec_lengthDiscard (h : s.line.receiver.take b = .badLength) :
    exec (.lengthDiscard b) s = .next (s.discardFrame .length) := by
  simp only [exec, execLengthDiscard, State.byteEvent_released released, h]

theorem exec_crcMismatch (h : s.line.receiver.take b = .badCrc) :
    exec (.crcMismatch b) s = .next (s.discardFrame .crc) := by
  simp only [exec, execCrcMismatch, State.byteEvent_released released, h]

theorem exec_foreignFrame (h : s.line.receiver.take b = .foreign) :
    exec (.foreignFrame b) s = .next (s.discardFrame .foreign) := by
  simp only [exec, execForeignFrame, State.byteEvent_released released, h]

theorem exec_ack {tag : Byte} (h : s.line.receiver.take b = .ack tag) :
    exec (.ack b) s = .next
      { s.setReceiver .hunt with delivery := s.delivery.acknowledge s.line.resendOnLine tag.toNat } := by
  simp only [exec, execAck, State.byteEvent_released released, h]

theorem exec_requestFrameArrival {f : Frame} (h : s.line.receiver.take b = .request f) :
    exec (.requestFrameArrival b) s = .next (s.arriveRequest f) := by
  simp only [exec, execRequestFrameArrival, State.byteEvent_released released, h]

/-- A gap within a frame discards it (R160). -/
theorem exec_gapTimeout (inFrame : s.line.receiver.inFrame = true) :
    exec .gapTimeout s = .next (s.discardFrame .gap) := by
  simp [exec, execGapTimeout, inFrame, released]

end

theorem Receiver.inFrame_iff (r : Receiver) : r.inFrame = true ↔ r ≠ .hunt := by
  cases r <;> simp [Receiver.inFrame]

/-! ### What the receiver makes of a byte (R158, R159, R162) -/

theorem Receiver.take_length {b : Byte} (low : 2 ≤ b.toNat) (high : b.toNat ≤ 130) :
    Receiver.length.take b = .advance (.body b.toNat []) :=
  if_pos (by simp [inRange, low, high])

theorem Receiver.take_badLength {b : Byte} (h : b.toNat < 2 ∨ 130 < b.toNat) : Receiver.length.take b = .badLength :=
  if_neg (by simp only [inRange, Bool.and_eq_true, decide_eq_true_eq]; omega)

theorem Receiver.take_body {len : Nat} {got : List Byte} (more : got.length + 1 < len) (b : Byte) :
    (Receiver.body len got).take b = .advance (.body len (got ++ [b])) :=
  if_neg (Nat.not_le_of_lt more)

theorem Receiver.take_lastBody {len : Nat} {got : List Byte} (full : got.length + 1 = len) (b : Byte) :
    (Receiver.body len got).take b = .advance (.crc len (got ++ [b]) none) :=
  if_pos (Nat.le_of_eq full.symm)

theorem Receiver.take_badCrc {len : Nat} {got : List Byte} {low b : Byte}
    (h : [low, b] ≠ crcBytes (crcOf (codeByte len :: got))) : (Receiver.crc len got (some low)).take b = .badCrc :=
  if_neg h

/-- The byte that ends a frame with a matching CRC dispatches it. -/
theorem State.EndsFrame.take {s : State} {len : Nat} {got : List Byte} {b : Byte} (h : s.EndsFrame len got b) :
    s.line.receiver.take b = dispatchFrame len (frameOfBody got) := by
  obtain ⟨-, low, receiver, crc⟩ := h
  rw [receiver]
  exact if_pos crc

theorem dispatchFrame_ack {f : Frame} (kind : f.kind = ackKind) : dispatchFrame 2 f = .ack f.tag := by
  simp [dispatchFrame, kind]

theorem dispatchFrame_badLength {len : Nat} {f : Frame} (kind : f.kind = ackKind) (length : len ≠ 2) :
    dispatchFrame len f = .badLength := by
  simp [dispatchFrame, kind, length]

theorem dispatchFrame_foreign {f : Frame} (kind : 128 ≤ f.kind.toNat) (len : Nat) : dispatchFrame len f = .foreign := by
  have notAck : f.kind ≠ ackKind := fun e => absurd (e ▸ kind) (by decide)
  simp [dispatchFrame, partKind, notAck, kind]

theorem dispatchFrame_request {f : Frame} (notAck : f.kind ≠ ackKind) (host : f.kind.toNat < 128) (len : Nat) :
    dispatchFrame len f = .request f := by
  simp [dispatchFrame, partKind, notAck, host]

/-- A byte other than E7h leaves the receiver in HUNT. -/
theorem Receiver.take_ignored {b : Byte} (h : b ≠ 0xE7#8) : Receiver.hunt.take b = .advance .hunt :=
  congrArg ByteEvent.advance (if_neg h)

/-- Settles O7: each byte that advances the receiver, and each discard. -/
theorem receiverTakesBytes : Obligations.ReceiverTakesBytes := by
  refine ⟨fun s b released => ?_, fun s b released => ?_⟩
  · have advances {r r' : Receiver} (receiver : s.line.receiver = r) (taken : r.take b = .advance r') :
        exec (.byteReceived b) s = .next (s.setReceiver r') :=
      exec_byteReceived released (receiver ▸ taken)
    refine ⟨fun hunt start => ?_, fun hunt other => ?_, fun length low high => ?_, fun len got body more => ?_,
      fun len got body full => ?_, fun len got crc => advances crc rfl⟩
    · subst start
      exact advances hunt rfl
    · refine (advances hunt (Receiver.take_ignored other)).trans ?_
      rw [State.setReceiver, ← hunt]
    · exact advances length (Receiver.take_length low high)
    · exact advances body (Receiver.take_body more b)
    · exact advances body (Receiver.take_lastBody full b)
  · refine ⟨fun length outside => ?_, fun len got ends ack other => ?_, fun len got ends part => ?_,
      fun len got low crc wrong => ?_, fun inside => ?_, fun hunt => ?_⟩
    · exact exec_lengthDiscard released (length ▸ Receiver.take_badLength outside)
    · exact exec_lengthDiscard released (ends.take.trans (dispatchFrame_badLength ack other))
    · exact exec_foreignFrame released (ends.take.trans (dispatchFrame_foreign part len))
    · exact exec_crcMismatch released (crc ▸ Receiver.take_badCrc wrong)
    · exact exec_gapTimeout released (s.line.receiver.inFrame_iff.mpr inside)
    · simp [exec, execGapTimeout, hunt, Receiver.inFrame]

/-! ### A frame that is sent (R157 to R159) -/

/-- The bytes of a body, up to its last one, bring the receiver to the CRC. -/
theorem Receiver.after_body {len : Nat} {got bs : List Byte} (full : got.length + bs.length = len) (some : bs ≠ [])
    (tail : List Byte) :
    Receiver.after (bs ++ tail) (.body len got) = Receiver.after tail (.crc len (got ++ bs) none) := by
  induction bs generalizing got with
  | nil => exact absurd rfl some
  | cons b bs ih =>
    cases bs with
    | nil => simp only [List.cons_append, List.nil_append, Receiver.after, Receiver.take_lastBody full]
    | cons c cs =>
      have more : got.length + 1 < len := by
        rw [List.length_cons, List.length_cons] at full
        omega
      have shifted : (got ++ [b]).length + (c :: cs).length = len := by
        simp only [List.length_append, List.length_cons, List.length_nil] at full ⊢
        omega
      have rest := ih shifted (List.cons_ne_nil c cs)
      rw [List.append_assoc] at rest
      rw [List.cons_append, Receiver.after, Receiver.take_body more]
      exact rest

/-- The low and the high CRC byte of a frame stand at its end. -/
theorem Frame.bytes_eq (f : Frame) :
    f.bytes = (0xE7#8 :: codeByte (f.payload.length + 2) :: (f.body ++ [(crcOf f.covered).setWidth 8])) ++
      [(crcOf f.covered >>> 8).setWidth 8] := by
  simp [Frame.bytes, Frame.covered, Frame.body, crcBytes]

theorem codeByte_toNat {n : Nat} (h : n < 256) : (codeByte n).toNat = n := Nat.mod_eq_of_lt h

/-- All bytes of a legal frame but the last bring the receiver before the last one. -/
theorem Frame.after_bytes {f : Frame} (legal : f.payload.length ≤ 128) :
    Receiver.after f.bytes.dropLast .hunt =
      some (.crc (f.payload.length + 2) f.body (some ((crcOf f.covered).setWidth 8))) := by
  have spelled : (codeByte (f.payload.length + 2)).toNat = f.payload.length + 2 := codeByte_toNat (by omega)
  have started : Receiver.hunt.take 0xE7#8 = .advance .length := rfl
  have measured : Receiver.length.take (codeByte (f.payload.length + 2)) =
      .advance (.body (f.payload.length + 2) []) := by
    rw [Receiver.take_length (by omega) (by omega), spelled]
  rw [f.bytes_eq, List.dropLast_concat]
  simp only [Receiver.after, started, measured]
  rw [Receiver.after_body (by simp [Frame.body]) (by simp [Frame.body])]
  rfl

/-- Settles O8: the bytes of the frame one after another, and the last one by the CRC. -/
theorem frameBytesAreReceived : Obligations.FrameBytesAreReceived := by
  intro f legal
  refine ⟨_, _, Frame.after_bytes legal, by rw [f.bytes_eq, List.getLast?_concat], fun b => ?_⟩
  show (if [_, b] = crcBytes (crcOf f.covered) then _ else _) = _
  simp only [crcBytes, List.cons.injEq, true_and, and_true]
  rfl

end Sys2Proof.Machine
end

section
/-! Delivery as the host sees it: requests that arrive, ACK frames, the transmitter's choices, the ends of frames, the ack
timer and SET_LINK, each change in one piece (R162 to R175). -/

namespace Sys2Proof.Machine

/-! ### Requests that arrive (R162, R171, R175) -/

/-- The offer of a request after the end of STALLED reaches the line, the delivery and the handler alone. -/
theorem State.offerRequest_endStalled (f : Frame) (t : State) :
    State.offerRequest f t.endStalled =
      { t with
        line := if t.handler.requests.length < 2 then t.line else t.line.discard .queueFull
        delivery := t.delivery.endStalled
        handler :=
          if t.handler.requests.length < 2 then { t.handler with requests := t.handler.requests ++ [f] }
          else t.handler } := by
  unfold State.offerRequest
  by_cases room : t.handler.requests.length < 2
  · simp only [State.endStalled_handler, Config.requestCapacity, room, ↓reduceIte]
    rfl
  · simp only [State.endStalled_handler, Config.requestCapacity, room, ↓reduceIte]
    rfl

/-- A request that arrives wakes the sequencer, ends STALLED and is queued, or discarded when two wait. -/
theorem State.arriveRequest_eq (f : Frame) (s : State) :
    s.arriveRequest f =
      { State.wake .host (s.setReceiver .hunt) with
        line :=
          if s.handler.requests.length < 2 then { s.line with receiver := .hunt } else s.line.discard .queueFull
        delivery := s.delivery.endStalled
        handler :=
          if s.handler.requests.length < 2 then { s.handler with requests := s.handler.requests ++ [f] }
          else s.handler } := by
  have woken := State.wake_same .host (s.setReceiver .hunt)
  unfold State.arriveRequest
  rw [State.offerRequest_endStalled, woken.line, woken.delivery, woken.handler]
  rfl

/-- Settles O9: the frame is a request, and its arrival in one piece. -/
theorem requestFrameArrival : Obligations.RequestFrameArrival := by
  intro s b len got ends notAck host
  have taken : s.line.receiver.take b = .request (frameOfBody got) :=
    ends.take.trans (dispatchFrame_request notAck host len)
  rw [exec_requestFrameArrival ends.1 taken, State.arriveRequest_eq, Delivery.endStalled_eq]
  rfl

/-! ### ACK frames (R168, R170) -/

theorem youngerThan_eq_some {n : Nat} {older rest : List Notice} {x : Notice} (named : x.seq = n)
    (others : ∀ y ∈ older, y.seq ≠ n) : youngerThan n (older ++ x :: rest) = some rest := by
  induction older with
  | nil => exact if_pos named
  | cons y ys ih =>
    obtain ⟨other, others⟩ := List.forall_mem_cons.mp others
    exact (if_neg other).trans (ih others)

theorem youngerThan_eq_none {n : Nat} {xs : List Notice} (others : ∀ y ∈ xs, y.seq ≠ n) : youngerThan n xs = none := by
  induction xs with
  | nil => rfl
  | cons y ys ih =>
    obtain ⟨other, others⟩ := List.forall_mem_cons.mp others
    exact (if_neg other).trans (ih others)

theorem Line.resendOnLine_eq (l : Line) : l.resendOnLine = l.tx.any fun x => x.source == .resend := by
  unfold Line.resendOnLine
  cases l.tx <;> rfl

/-- Whether the removal of notices that leaves `left` of the pass set ends a resend pass (R170). -/
abbrev Delivery.PassEnds (d : Delivery) (left : List Notice) (resendOnLine : Bool) : Prop :=
  d.state = .resend ∧ left = [] ∧ resendOnLine = false

/-- The removal of acknowledged notices, with the timer and the pass that it ends, in one piece. -/
theorem Delivery.afterRemoval_removed (rest : List Notice) (resendOnLine : Bool) (d : Delivery) :
    (d.removed rest).afterRemoval resendOnLine =
      let left := d.passSet.filter fun y => rest.contains y
      { d with
        inFlight := rest, passSet := left, retries := 0
        state := if d.PassEnds left resendOnLine then .opened else d.state
        ackTimer :=
          if d.state = .opened ∨ d.PassEnds left resendOnLine then
            if rest = [] then none else some (Timer.start d.params.ackTimeout)
          else d.ackTimer } := by
  obtain ⟨state, inFlight, pass, timer, retries, next, params⟩ := d
  cases state with
  | opened => simp [Delivery.removed, Delivery.afterRemoval]
  | stalled | hold => simp [Delivery.removed, Delivery.afterRemoval]
  | resend =>
    dsimp only [Delivery.removed, Delivery.afterRemoval]
    generalize (pass.filter fun y => rest.contains y) = left
    simp only [Bool.and_eq_true, List.isEmpty_iff, Bool.not_eq_true', Delivery.PassEnds, true_and]
    split
    · next ends => simp [Delivery.endPass, ends]
    · next stays => simp [stays]

theorem Delivery.acknowledge_some {rest : List Notice} {n : Nat} {d : Delivery}
    (found : youngerThan n d.inFlight = some rest) (resendOnLine : Bool) :
    d.acknowledge resendOnLine n = (d.removed rest).afterRemoval resendOnLine := by
  simp only [Delivery.acknowledge, found]

theorem Delivery.acknowledge_none {n : Nat} {d : Delivery} (unnamed : youngerThan n d.inFlight = none)
    (resendOnLine : Bool) : d.acknowledge resendOnLine n = d := by
  simp only [Delivery.acknowledge, unnamed]

/-- Settles O10: the notices younger than the named one stay, and where none is named all do. -/
theorem ackIsCumulative : Obligations.AckIsCumulative := by
  intro s b tag ends
  have taken : s.line.receiver.take b = .ack tag := ends.take.trans (dispatchFrame_ack rfl)
  refine ⟨fun older x rest flying named others => ?_, fun unnamed => ?_⟩
  · have found : youngerThan tag.toNat s.delivery.inFlight = some rest := flying ▸ youngerThan_eq_some named others
    rw [exec_ack ends.1 taken, Delivery.acknowledge_some found, Delivery.afterRemoval_removed, Line.resendOnLine_eq]
    rfl
  · rw [exec_ack ends.1 taken, Delivery.acknowledge_none (youngerThan_eq_none unnamed)]
    rfl

/-! ### The transmitter's choices (R163, R165, R170, R176) -/

section
variable {s : State}

theorem exec_replyTransmission {f : Frame} {rest : List Frame} (replies : s.handler.replies = f :: rest)
    (free : s.txFree = true) :
    exec .replyTransmission s = .next
      (State.transmit .reply f { s with handler := { s.handler with replies := rest } }) := by
  simp [exec, execReplyTransmission, replies, free]

/-- No reply goes out away from a frame boundary. -/
theorem exec_replyTransmission_none (busy : s.txFree = false) : exec .replyTransmission s = .next s := by
  show execReplyTransmission s = _
  unfold execReplyTransmission
  split <;> simp [busy]

theorem exec_noticeResend {n : Notice} {rest : List Notice} (pass : s.delivery.passSet = n :: rest)
    (free : s.txFree = true) (replies : s.handler.replies = []) (resend : s.delivery.state = .resend) :
    exec .noticeResend s = .next
      (State.transmit .resend n.frame { s with delivery := { s.delivery with passSet := rest } }) := by
  simp [exec, execNoticeResend, pass, free, replies, resend]

/-- No notice is sent again where the transmitter, the replies or delivery do not let it. -/
theorem exec_noticeResend_none
    (h : (s.txFree && s.handler.replies.isEmpty && s.delivery.state == .resend) = false) :
    exec .noticeResend s = .next s := by
  show execNoticeResend s = _
  unfold execNoticeResend
  split
  · rfl
  · rw [if_neg (by simp [h])]

theorem State.txFree_iff (s : State) : s.txFree = true ↔ s.line.tx = none ∧ s.resetHeld = false := by
  simp [State.txFree]

/-- A frame on the line leaves no boundary to begin another one. -/
theorem State.txFree_busy (line : s.line.tx ≠ none) : s.txFree = false := by
  simp [State.txFree, line]

theorem Delivery.mayFirst_eq_false {d : Delivery} (h : d.state ≠ .opened ∨ d.params.window ≤ d.inFlight.length) :
    d.mayFirst = false := by
  simpa [Delivery.mayFirst, imp_iff_not_or] using h

end

/-- Settles O11: a reply before every notice, the oldest notice of a pass, and what no boundary or no state lets out. -/
theorem transmitterChooses : Obligations.TransmitterChooses := by
  refine ⟨fun s f rest replies line released => ⟨?_, ?_, ?_⟩, fun s n rest pass resend line released replies => ?_,
    fun s => ⟨fun closed => ?_, fun other => ?_, fun line => ?_⟩⟩
  · exact exec_replyTransmission replies (s.txFree_iff.mpr ⟨line, released⟩)
  · exact exec_firstTransmission_none (by simp [replies])
  · exact exec_noticeResend_none (by simp [replies])
  · exact exec_noticeResend pass (s.txFree_iff.mpr ⟨line, released⟩) replies resend
  · exact exec_firstTransmission_none (by simp [Delivery.mayFirst_eq_false closed])
  · exact exec_noticeResend_none (by simp [other])
  · have busy := State.txFree_busy line
    exact ⟨exec_replyTransmission_none busy, exec_firstTransmission_none (by simp [busy]),
      exec_noticeResend_none (by simp [busy])⟩

/-! ### Ends of frames (R166, R170) -/

/-- What the end of a frame does to delivery, in one piece. -/
theorem Delivery.frameEnded_eq (source : TxSource) (d : Delivery) :
    d.frameEnded source =
      if d.state = .resend ∧ d.passSet = [] then
        { d with
          state := .opened
          ackTimer := if d.inFlight = [] then none else some (Timer.start d.params.ackTimeout) }
      else if source = .first ∧ d.state = .opened ∧ d.ackTimer = none ∧ d.inFlight ≠ [] then
        { d with ackTimer := some (Timer.start d.params.ackTimeout) }
      else d := by
  have boundary : d.atBoundary =
      if d.state = .resend ∧ d.passSet = [] then
        { d with
          state := .opened
          ackTimer := if d.inFlight = [] then none else some (Timer.start d.params.ackTimeout) }
      else d := by
    unfold Delivery.atBoundary Delivery.endPass
    simp only [List.isEmpty_iff]
    split
    · next ended => rw [ended.2]
    · rfl
  cases source with
  | reply | resend => simpa [Delivery.frameEnded] using boundary
  | first =>
    by_cases starts : d.state = .opened ∧ d.ackTimer = none ∧ d.inFlight ≠ []
    · simp [Delivery.frameEnded, Delivery.firstEnded, Delivery.atBoundary, starts]
    · simpa [Delivery.frameEnded, Delivery.firstEnded, starts] using boundary

/-- Settles O13: the end of a frame that no SOFT reset follows. -/
theorem frameEndActsOnDelivery : Obligations.FrameEndActsOnDelivery := by
  intro s x line still start
  show execFrameEnd s = _
  simp only [execFrameEnd, line, still, Delivery.frameEnded_eq]
  rfl

/-! ### The ack timer (R169) -/

/-- The expiry of the ack timer with notices in flight, in one piece. -/
theorem Delivery.expired_eq {d : Delivery} (flying : d.inFlight ≠ []) :
    d.expired =
      if d.retries < d.params.retryLimit then
        { d with retries := d.retries + 1, state := .resend, passSet := d.inFlight, ackTimer := none }
      else { d with state := .stalled, ackTimer := none } := by
  simp [Delivery.expired, Delivery.beginPass, flying]

/-- Settles O14: the expiry in OPEN, and that there is none in any other state. -/
theorem ackTimerExpiry : Obligations.AckTimerExpiry := by
  refine fun s => ⟨fun opened runs flying => ?_, fun other => if_neg fun at_ => other at_.1⟩
  rw [← Delivery.expired_eq flying]
  exact if_pos ⟨opened, Option.isSome_iff_ne_none.mpr runs⟩

/-! ### SET_LINK (R172, R173) -/

/-- The parameters replaced whole outside STALLED, with HOLD entered or left, in one piece. -/
theorem Delivery.setParams_eq {d : Delivery} (running : d.state ≠ .stalled) (p : LinkParams) :
    d.setParams p =
      if p.notices = false ∧ (d.state = .opened ∨ d.state = .resend) then
        { d with params := p, state := .hold, passSet := [], ackTimer := none }
      else if p.notices = true ∧ d.state = .hold then
        { d with
          params := p, state := if d.inFlight = [] then .opened else .resend
          passSet := d.inFlight, ackTimer := none, retries := 0 }
      else { d with params := p } := by
  cases notices : p.notices with
  | true => simp [Delivery.setParams, Delivery.enable, Delivery.beginPass, notices]
  | false =>
    cases state : d.state with
    | opened | resend | hold => simp [Delivery.setParams, Delivery.disable, notices, state]
    | stalled => exact absurd state running

/-- SET_LINK carried out, or refused at the first field outside its range. -/
theorem exec_setLink {f : Frame} {rest : List Frame} {s : State} {w a0 a1 r n : Byte} (h : s.TakesNew .setLink f rest)
    (payload : f.payload = [w, a0, a1, r, n]) :
    exec .setLink s = .next
      (match firstFailing (linkChecks [w, a0, a1, r, n]) with
        | some offset => (s.beginTaking rest).replied f (Refused.badValue offset).reply
        | none =>
          State.replied f Reply.ok
            { s.beginTaking rest with
              delivery := (s.beginTaking rest).delivery.setParams (linkParams [w, a0, a1, r, n]) }) := by
  have generic : RequestKind.setLink.generic f.payload = none := by rw [payload]; rfl
  show Host.Outcome.next (s.request .setLink serveSetLink) = _
  rw [State.request_new h, checked_of_generic _ _ generic, payload]
  show Host.Outcome.next (State.replied f (serveSetLink _ _).2 (serveSetLink _ _).1) = _
  simp only [serveSetLink]
  cases firstFailing (linkChecks [w, a0, a1, r, n]) <;> rfl

/-- The checks of a SET_LINK payload, on the numbers that its bytes spell. -/
theorem linkChecks_eq (w a0 a1 r n : Byte) :
    linkChecks [w, a0, a1, r, n] =
      [(0, inRange 1 4 w.toNat), (1, inRange 5 2000 (a0.toNat + 256 * a1.toNat)), (3, inRange 0 7 r.toNat),
        (4, inRange 0 1 n.toNat)] := rfl

theorem inRange_within {lo hi v : Nat} (low : lo ≤ v) (high : v ≤ hi) : inRange lo hi v = true := by
  simp [inRange, low, high]

theorem inRange_outside {lo hi v : Nat} (h : v < lo ∨ hi < v) : inRange lo hi v = false := by
  simp only [inRange, Bool.and_eq_false_iff, decide_eq_false_iff_not]
  omega

/-- The parameters of a SET_LINK payload, on the numbers that its bytes spell. -/
theorem linkParams_eq (w a0 a1 r n : Byte) :
    linkParams [w, a0, a1, r, n] =
      { window := w.toNat, ackTimeout := a0.toNat + 256 * a1.toNat, retryLimit := r.toNat, notices := n == 1#8 } := by
  have enables : (n.toNat == 1) = (n == 1#8) := by
    rw [Bool.eq_iff_iff, beq_iff_eq, beq_iff_eq, ← BitVec.toNat_inj]
    rfl
  rw [← enables]
  rfl

/-- Settles O22: the checks in their order, and the parameters that pass them, on the delivery that the taking leaves. -/
theorem setLinkSetsParameters : Obligations.SetLinkSetsParameters := by
  intro f rest s w a0 a1 r n h payload u refused timeout
  have taken := exec_setLink h payload
  have refuses {offset : Nat} (fails : firstFailing (linkChecks [w, a0, a1, r, n]) = some offset) :
      exec .setLink s = .next (u.replied f (Refused.badValue offset).reply) := by
    rw [taken, fails]
  rw [linkChecks_eq] at refuses
  refine ⟨fun window => ?_, fun w1 w4 time => ?_, fun w1 w4 t5 t2000 retry => ?_, fun w1 w4 t5 t2000 r7 notices => ?_,
    fun w1 w4 t5 t2000 r7 n1 => ?_⟩
  · exact refuses (by rw [inRange_outside window]; rfl)
  · exact refuses (by rw [inRange_within w1 w4, inRange_outside time]; rfl)
  · exact refuses (by rw [inRange_within w1 w4, inRange_within t5 t2000, inRange_outside (.inr retry)]; rfl)
  · exact refuses (by
      rw [inRange_within w1 w4, inRange_within t5 t2000, inRange_within (Nat.zero_le _) r7,
        inRange_outside (.inr notices)]
      rfl)
  · intro d
    have passes : firstFailing (linkChecks [w, a0, a1, r, n]) = none := by
      rw [linkChecks_eq, inRange_within w1 w4, inRange_within t5 t2000, inRange_within (Nat.zero_le _) r7,
        inRange_within (Nat.zero_le _) n1]
      rfl
    have running : u.delivery.state ≠ .stalled := by
      obtain ⟨-, -, -, delivery, -⟩ := s.beginTaking_fields rest
      rw [delivery]
      exact s.delivery.endStalled_state
    have on : (n == 1#8) = true ↔ n = 1#8 := beq_iff_eq
    have off : (n == 1#8) = false ↔ n = 0#8 := by
      rw [beq_eq_false_iff_ne, ne_eq, ← BitVec.toNat_inj, ← BitVec.toNat_inj]
      show ¬ n.toNat = 1 ↔ n.toNat = 0
      omega
    have replaced := Delivery.setParams_eq running (linkParams [w, a0, a1, r, n])
    simp only [linkParams_eq, on, off] at replaced
    rw [taken, passes, linkParams_eq]
    show Host.Outcome.next (State.replied f Reply.ok { u with delivery := u.delivery.setParams _ }) = _
    rw [replaced]
    rfl

end Sys2Proof.Machine
end

section
/-! Delivery stays sound by itself: its own changes, and the walk over the commands from any state whose delivery is sound,
whatever the rest of the part holds (R164 to R173). -/

namespace Sys2Proof.Machine

/-! ### Delivery's changes (R164 to R173) -/

/-- What soundness asks of delivery whatever its state: the parameters and the retry count in their ranges, at most 4
notices in flight, numbered up to the next number (R164, R172). -/
abbrev Delivery.Bounded (d : Delivery) : Prop :=
  d.params.InRange ∧ d.inFlight.length ≤ 4 ∧ numberedUpTo d.nextSeq d.inFlight = true ∧
    (1 ≤ d.nextSeq ∧ d.nextSeq ≤ 255) ∧ d.retries ≤ 7

namespace Delivery

variable {d : Delivery}

theorem Sound.bounded (h : d.Sound) : d.Bounded := by
  obtain ⟨params, few, numbered, low, high, retries, -⟩ := h
  exact ⟨params, few, numbered, ⟨low, high⟩, retries⟩

theorem Sound.holds (h : d.Sound) : d.state = .hold ↔ d.params.notices = false := by
  obtain ⟨-, -, -, -, -, -, -, -, -, hold⟩ := h
  exact hold

/-- Outside RESEND the pass set is empty. -/
theorem Sound.passless (h : d.Sound) (state : d.state ≠ .resend) : d.passSet = [] := by
  obtain ⟨-, -, -, -, -, -, -, pass, -⟩ := h
  exact pass state

/-- In RESEND no more than a young end of the in-flight set and a stopped timer are asked for (R167, R170). -/
theorem Bounded.resending (h : d.Bounded) (state : d.state = .resend) (suffix : d.passSet <:+ d.inFlight)
    (timer : d.ackTimer = none) (notices : d.params.notices = true) : d.Sound := by
  obtain ⟨params, few, numbered, ⟨low, high⟩, retries⟩ := h
  exact ⟨params, few, numbered, low, high, retries, suffix, fun other => absurd state other,
    fun runs => absurd timer runs, by simp [state, notices]⟩

/-- In OPEN the timer may run while notices are in flight (R166, R167). -/
theorem Bounded.opened (h : d.Bounded) (state : d.state = .opened) (pass : d.passSet = [])
    (timer : d.inFlight = [] → d.ackTimer = none) (notices : d.params.notices = true) : d.Sound := by
  obtain ⟨params, few, numbered, ⟨low, high⟩, retries⟩ := h
  exact ⟨params, few, numbered, low, high, retries, pass ▸ List.nil_suffix, fun _ => pass,
    fun runs => ⟨state, fun empty => runs (timer empty)⟩, by simp [state, notices]⟩

/-- Without a pass and a timer only HOLD has to agree with the parameters (R173). -/
theorem Bounded.resting (h : d.Bounded) (pass : d.passSet = []) (timer : d.ackTimer = none)
    (hold : d.state = .hold ↔ d.params.notices = false) : d.Sound := by
  obtain ⟨params, few, numbered, ⟨low, high⟩, retries⟩ := h
  exact ⟨params, few, numbered, low, high, retries, pass ▸ List.nil_suffix, fun _ => pass,
    fun runs => absurd timer runs, hold⟩

/-- A resend pass begins, in RESEND, or in OPEN over an empty set (R170). -/
theorem Bounded.beginPass (h : d.Bounded) (notices : d.params.notices = true) : d.beginPass.Sound := by
  by_cases empty : d.inFlight = []
  · exact Bounded.opened h (by simp [Delivery.beginPass, empty]) empty (fun _ => rfl) notices
  · exact Bounded.resending h (by simp [Delivery.beginPass, empty]) List.suffix_rfl rfl notices

/-- The end of a resend pass (R170). -/
theorem Bounded.endPass (h : d.Bounded) (notices : d.params.notices = true) : d.endPass.Sound :=
  Bounded.opened h rfl rfl (fun empty => if_pos (List.isEmpty_iff.mpr empty)) notices

/-- The bounds with another retry count in its range. -/
theorem Bounded.retried (h : d.Bounded) {n : Nat} (hn : n ≤ 7) : Delivery.Bounded { d with retries := n } := by
  obtain ⟨params, few, numbered, next, -⟩ := h
  exact ⟨params, few, numbered, next, hn⟩

theorem Sound.endStalled (h : d.Sound) : d.endStalled.Sound := by
  unfold Delivery.endStalled
  split
  · next stalled => exact (h.bounded.retried (Nat.zero_le 7)).beginPass (h.enabled (by simp [stalled]))
  · exact h

theorem Sound.atBoundary (h : d.Sound) : d.atBoundary.Sound := by
  unfold Delivery.atBoundary
  split
  · next ended => exact h.bounded.endPass (h.enabled (by simp [ended.1]))
  · exact h

theorem Sound.firstEnded (h : d.Sound) : d.firstEnded.Sound := by
  unfold Delivery.firstEnded
  split
  · next starts =>
    obtain ⟨state, -, flying⟩ := starts
    exact Bounded.opened h.bounded state (h.passless (by simp [state])) (fun empty => absurd empty flying)
      (h.enabled (by simp [state]))
  · exact h

theorem Sound.frameEnded (h : d.Sound) (source : TxSource) : (d.frameEnded source).Sound := by
  cases source with
  | first => exact h.firstEnded.atBoundary
  | reply | resend => exact h.atBoundary

/-- The expiry of the ack timer in OPEN: the raised count stays within the retry limit (R169, R172). -/
theorem Sound.expired (h : d.Sound) (state : d.state = .opened) : d.expired.Sound := by
  have notices := h.enabled (by simp [state])
  obtain ⟨-, -, -, -, limit⟩ := h.bounded.1
  unfold Delivery.expired
  split
  · next below => exact (h.bounded.retried (Nat.le_trans below limit)).beginPass notices
  · exact Bounded.resting h.bounded (h.passless (by simp [state])) rfl (by simp [notices])

/-- An accepted SET_LINK (R172, R173). -/
theorem Sound.setParams (h : d.Sound) {p : LinkParams} (hp : p.InRange) : (d.setParams p).Sound := by
  obtain ⟨-, few, numbered, next, retries⟩ := h.bounded
  have bounded : Delivery.Bounded { d with params := p } := ⟨hp, few, numbered, next, retries⟩
  have held : p.notices = false →
      Delivery.Sound { d with params := p, state := .hold, passSet := [], ackTimer := none } :=
    fun off => Bounded.resting bounded rfl rfl (by simp [off])
  unfold Delivery.setParams Delivery.enable Delivery.disable
  cases notices : p.notices with
  | true =>
    simp only [if_true]
    split
    · exact (bounded.retried (Nat.zero_le 7)).beginPass notices
    · next outside =>
      obtain ⟨-, -, -, -, -, -, suffix, pass, timer, -⟩ := h
      exact ⟨hp, few, numbered, next.1, next.2, retries, suffix, pass, timer, by simp [notices, outside]⟩
  | false =>
    cases state : d.state with
    | opened | resend | stalled => simpa [state] using held notices
    | hold =>
      exact Bounded.resting bounded (h.passless (by simp [state])) (h.untimed (by simp [state]))
        (by simp [notices])

/-- A notice transmitted for the first time, in OPEN below the window (R165, R166). -/
theorem Sound.send (h : d.Sound) (first : d.mayFirst = true) (body : NoticeBody) : (d.send body).Sound := by
  simp only [Delivery.mayFirst, Bool.and_eq_true, beq_iff_eq, decide_eq_true_eq] at first
  obtain ⟨state, room⟩ := first
  obtain ⟨params, -, numbered, next, retries⟩ := h.bounded
  have ⟨_, four, _⟩ := params
  have few : (d.send body).inFlight.length ≤ 4 := by
    rw [Delivery.send, List.length_append]
    exact Nat.succ_le_of_lt (room.trans_le four)
  have bounded : (d.send body).Bounded :=
    ⟨params, few, numberedUpTo_send numbered next body, seqAfter_range next, retries⟩
  exact Bounded.opened bounded state (h.passless (by simp [state])) (fun empty => by simp [Delivery.send] at empty)
    (h.enabled (by simp [state]))

/-- The oldest notice of the pass set leaves it in RESEND (R170). -/
theorem Sound.resent (h : d.Sound) (state : d.state = .resend) {n : Notice} {rest : List Notice}
    (pass : d.passSet = n :: rest) : Delivery.Sound { d with passSet := rest } := by
  have timer := h.untimed (by simp [state])
  have notices := h.enabled (by simp [state])
  have bounded := h.bounded
  obtain ⟨-, -, -, -, -, -, suffix, -⟩ := h
  rw [pass] at suffix
  exact Bounded.resending bounded state ((List.suffix_cons n rest).trans suffix) timer notices

/-- The in-flight set discarded by FLUSH_NOTICES (R152). -/
theorem Sound.flushed (h : d.Sound) (scope : FlushScope) (boundary : Bool) : (d.flushed scope boundary).Sound := by
  obtain ⟨params, -, -, next, -⟩ := h.bounded
  have discarded : d.discardInFlight.Sound :=
    Bounded.resting ⟨params, Nat.zero_le 4, rfl, next, Nat.zero_le 7⟩ rfl rfl h.holds
  unfold Delivery.flushed
  cases scope with
  | queue => exact h
  | inFlight | both =>
    dsimp only
    split
    · exact discarded.atBoundary
    · exact discarded

/-- One REFCLK period passes at the ack timer (R167). -/
theorem Sound.retimed (h : d.Sound) : Delivery.Sound { d with ackTimer := d.ackTimer.map Timer.pass } := by
  obtain ⟨params, few, numbered, low, high, retries, suffix, pass, timer, hold⟩ := h
  refine ⟨params, few, numbered, low, high, retries, suffix, pass, fun runs => timer fun off => ?_, hold⟩
  exact runs (by rw [off]; rfl)

/-- What an ACK frame leaves of the notices: still numbered up to the next number, and the rest of the pass set a young
end of them (R164, R168). -/
theorem Sound.removed (h : d.Sound) {n : Nat} {rest : List Notice} (found : youngerThan n d.inFlight = some rest) :
    (d.removed rest).Bounded ∧ (d.removed rest).passSet <:+ rest := by
  obtain ⟨x, pre, flying⟩ := youngerThan_some found
  obtain ⟨params, few, numbered, next, -⟩ := h.bounded
  obtain ⟨-, -, -, -, -, -, suffix, -⟩ := h
  rw [show pre ++ x :: rest = (pre ++ [x]) ++ rest by simp] at flying
  rw [flying] at few numbered suffix
  have short : rest.length ≤ 4 := by
    rw [List.length_append] at few
    omega
  exact ⟨⟨params, short, numberedUpTo_suffix numbered, next, Nat.zero_le 7⟩,
    filter_suffix numbered (few.trans (by decide)) suffix⟩

/-- An ACK frame (R168, R170). -/
theorem Sound.acknowledge (h : d.Sound) (resendOnLine : Bool) (n : Nat) : (d.acknowledge resendOnLine n).Sound := by
  cases found : youngerThan n d.inFlight with
  | none => rwa [Delivery.acknowledge_none found]
  | some rest =>
    rw [Delivery.acknowledge_some found]
    obtain ⟨bounded, suffix⟩ := h.removed found
    have empty (state : d.state ≠ .resend) : (d.removed rest).passSet = [] := by
      simp [Delivery.removed, h.passless state]
    unfold Delivery.afterRemoval
    rw [show (d.removed rest).state = d.state from rfl]
    cases state : d.state with
    | opened =>
      exact Bounded.opened bounded rfl (empty (by simp [state])) (fun none => if_pos (List.isEmpty_iff.mpr none))
        (h.enabled (by simp [state]))
    | resend =>
      have notices := h.enabled (by simp [state])
      dsimp only
      split
      · exact bounded.endPass notices
      · exact bounded.resending state suffix (h.untimed (by simp [state])) notices
    | stalled | hold => exact bounded.resting (empty (by simp [state])) (h.untimed (by simp [state])) h.holds

end Delivery

/-! ### The commands that do not reach delivery -/

section
variable {P : State → Prop} {s : State}

/-- The commands of the counting units: a unit's counters are written, or its job completes. -/
theorem KeptInside.units (hP : KeptInside P) (written : ∀ u r, P (s.setUnit u r)) (h : P s) (u : UnitId) (e : Edge)
    (dt : Nat) :
    Yields P (execSettleEdge u dt s) ∧ Yields P (execGateEdge u dt s) ∧ Yields P (execGateClose u s) ∧
      Yields P (execArmingEdge u dt s) ∧ Yields P (execPeriodEdge u dt s) ∧ Yields P (execIntervalArmingEdge u e dt s) ∧
      Yields P (execIntervalFinalEdge u e dt s) ∧ Yields P (execSpanTimeout u s) := by
  have completed {q : Running} {test : Running → Bool} (taken : s.takesEdge u dt test = some q) (reading : Reading) :
      P (s.completeJob u q reading) := by
    obtain ⟨x, busy, -, rfl, -⟩ := State.takesEdge_some taken
    exact hP.completeJob u x _ reading h busy rfl rfl
  refine ⟨?_, ?_, ?_, ?_, ?_, ?_, ?_, ?_⟩
  · unfold execSettleEdge; split
    exacts [.next (written _ _), .next h]
  · unfold execGateEdge; split
    exacts [.next (written _ _), .next h]
  · unfold execGateClose; split
    · next r busy =>
      split
      exacts [.next (hP.completeJob u r r _ h busy rfl rfl), .next h]
    · exact .next h
  · unfold execArmingEdge; split
    exacts [.next (written _ _), .next h]
  · unfold execPeriodEdge; split
    · next taken =>
      split
      exacts [.next (completed taken _), .next (written _ _)]
    · exact .next h
  · unfold execIntervalArmingEdge; split
    exacts [.next (written _ _), .next h]
  · unfold execIntervalFinalEdge; split
    · next taken =>
      split
      exacts [.next (completed taken _), .next (written _ _)]
    · exact .next h
  · unfold execSpanTimeout; split
    · next r busy =>
      split
      exacts [.next h, .next (hP.completeJob u r r _ h busy rfl rfl)]
    · exact .next h

/-- The expiry of the round timer: an overrun is counted and may be told, or a round begins (R66 to R68). -/
theorem KeptInside.roundTimerExpiry (hP : KeptInside P) (h : P s) : Yields P (execRoundTimerExpiry s) := by
  unfold execRoundTimerExpiry
  split
  · exact .next h
  · dsimp only
    split
    · refine .next ?_
      unfold State.overrun
      dsimp only
      split
      · exact hP.seq s _ h
      · exact hP.record _ _ (hP.seq s _ h)
    · exact .next (hP.drive (hP.seq s _ h))

end

/-! ### The walk over the commands -/

/-- The delivery of a state is sound, whatever the rest of it is. -/
def State.DeliverySound (s : State) : Prop := s.delivery.Sound

namespace State.DeliverySound

variable {s : State}

/-- The inner blocks do not reach delivery. -/
theorem kept : KeptInside State.DeliverySound where
  seq _ _ h := h
  ops _ _ h := h
  choices _ _ h := h
  locks _ _ h := h
  live _ _ _ h := h
  config _ _ _ h _ := h
  record _ _ h := h
  granted _ h := h
  entered _ _ _ h _ := h
  dropped _ _ h := h
  released _ _ _ h _ := h
  unit _ _ _ _ h _ _ _ _ := h

theorem resets (h : s.DeliverySound) (speed : LineSpeed) :
    Yields State.DeliverySound (execPowerReset speed s) ∧ Yields State.DeliverySound (execPinReset speed s) ∧
      Yields State.DeliverySound (execSoftReset speed s) := by
  have default := Delivery.reset_sound LinkParams.default_inRange
  refine ⟨.next default, .next default, ?_⟩
  unfold execSoftReset
  split
  exacts [.next (Delivery.reset_sound h.bounded.1), .next h]

/-- The commands of the receiver. -/
theorem receiving (h : s.DeliverySound) (b : Byte) :
    Yields State.DeliverySound (execByteReceived b s) ∧ Yields State.DeliverySound (execLengthDiscard b s) ∧
      Yields State.DeliverySound (execCrcMismatch b s) ∧ Yields State.DeliverySound (execForeignFrame b s) ∧
      Yields State.DeliverySound (execAck b s) ∧ Yields State.DeliverySound (execRequestFrameArrival b s) := by
  refine ⟨?_, ?_, ?_, ?_, ?_, ?_⟩
  · unfold execByteReceived; split <;> exact .next h
  · unfold execLengthDiscard; split <;> exact .next h
  · unfold execCrcMismatch; split <;> exact .next h
  · unfold execForeignFrame; split <;> exact .next h
  · unfold execAck; split
    exacts [.next (h.acknowledge _ _), .next h]
  · unfold execRequestFrameArrival; split
    · refine .next ?_
      rw [State.arriveRequest_eq]
      exact h.endStalled
    · exact .next h

/-- The commands of the transmitter and of the ack timer. -/
theorem transmitting (h : s.DeliverySound) :
    Yields State.DeliverySound (execGapTimeout s) ∧ Yields State.DeliverySound (execReplyTransmission s) ∧
      Yields State.DeliverySound (execFirstTransmission s) ∧ Yields State.DeliverySound (execNoticeResend s) ∧
      Yields State.DeliverySound (execFrameEnd s) ∧ Yields State.DeliverySound (execAckTimerExpiry s) := by
  refine ⟨?_, ?_, ?_, ?_, ?_, ?_⟩
  · unfold execGapTimeout; split <;> exact .next h
  · unfold execReplyTransmission; split
    · exact .next h
    · split <;> exact .next h
  · unfold execFirstTransmission; split
    · exact .next h
    · next body q _ =>
      split
      · next free => exact .next (h.send (Bool.and_eq_true _ _ ▸ free).2 body)
      · exact .next h
  · unfold execNoticeResend; split
    · exact .next h
    · next pass =>
      split
      · next free => exact .next (h.resent (beq_iff_eq.mp (Bool.and_eq_true _ _ ▸ free).2) pass)
      · exact .next h
  · unfold execFrameEnd; split
    · exact .next h
    · split
      exacts [.next h, .next (h.frameEnded _)]
  · unfold execAckTimerExpiry; split
    · next due => exact .next (h.expired due.1)
    · exact .next h

/-- A request that is taken ends STALLED, whether the cache answers it or a service that keeps delivery sound. -/
theorem takeRequest (h : s.DeliverySound) (ofKind : Byte → Bool) (service : Service)
    (served : ∀ f t, t.DeliverySound → (service f t).1.DeliverySound) : (s.takeRequest ofKind service).DeliverySound := by
  obtain ⟨f, rest, -, -, -, taken⟩ | same := s.takeRequest_cases ofKind service
  · have begun : (s.beginTaking rest).DeliverySound := by
      obtain ⟨-, -, -, delivery, -⟩ := s.beginTaking_fields rest
      rw [State.DeliverySound, delivery]
      exact h.endStalled
    rw [taken]
    unfold State.answer
    split
    · exact begun
    · show (State.replied f _ _).DeliverySound
      rw [State.replied_eq]
      exact served f _ begun
  · rwa [same]

theorem request (h : s.DeliverySound) (k : RequestKind) {serve : List Byte → State → State × Reply}
    (served : ∀ p t, t.DeliverySound → (serve p t).1.DeliverySound) :
    Yields State.DeliverySound (.next (s.request k serve)) := by
  refine .next (h.takeRequest _ _ fun f t ht => ?_)
  unfold checked
  split
  exacts [ht, served _ _ ht]

theorem guarded (h : s.DeliverySound) (k : RequestKind) {refuse : List Byte → State → Option Refused}
    {effect : List Byte → State → State}
    (kept : ∀ p t, refuse p t = none → t.DeliverySound → (effect p t).DeliverySound) :
    Yields State.DeliverySound (.next (s.request k (Machine.guarded refuse effect))) := by
  refine h.request k fun p t ht => ?_
  unfold Machine.guarded
  split
  · exact ht
  · next accepted => exact kept p t accepted ht

/-- The commands of the request handler that carry out one defined kind: SET_LINK and FLUSH_NOTICES alone reach
delivery. -/
theorem requests (h : s.DeliverySound) {c : Instr} {k : RequestKind} (hk : requestKindOf c = some k) :
    Yields State.DeliverySound (exec c s) := by
  have operation (o : OpKind) (p : List Byte) (t : State) (ht : t.DeliverySound) :
      (serveOperation o p t).1.DeliverySound := by
    unfold serveOperation
    split
    exacts [ht, kept.startOperation o p ht]
  cases c <;> simp only [requestKindOf, reduceCtorEq] at hk
  case ping | getStatus | getScan | resetPart => exact h.request _ fun _ _ ht => ht
  case setLink =>
    refine h.request _ fun p t ht => ?_
    unfold serveSetLink
    split
    · exact ht
    · next passed => exact ht.setParams (linkParams_inRange passed)
  case setChannel =>
    refine h.guarded _ fun p t accepted ht => ?_
    obtain ⟨-, -, range, consistent⟩ := State.refuseSetChannel_none accepted
    exact kept.reconfigure _ _ (configOf_valid range consistent) ht
  case getChannel =>
    refine h.request _ fun p t ht => ?_
    unfold serveGetChannel
    split <;> exact ht
  case setScan => exact h.guarded _ fun _ _ _ ht => ht
  case scanStart => exact h.guarded _ fun _ _ _ ht => kept.startScan _ _ ht
  case scanStop => exact h.request _ fun _ t ht => kept.seq t.abandon _ (kept.abandon ht)
  case calibrate => exact h.request _ (operation .calibrate)
  case measure => exact h.request _ (operation .measure)
  case abortOp =>
    refine h.request _ fun p t ht => ?_
    unfold serveAbortOp
    split
    exacts [ht, kept.abortOperation _ ht]
  case flushNotices =>
    refine h.request _ fun p t ht => ?_
    unfold serveFlush
    split
    exacts [ht, ht.flushed _ _]

theorem exec (h : s.DeliverySound) (c : Instr) : Yields State.DeliverySound (exec c s) := by
  have units := kept.units (s := s) (fun _ _ => h) h
  obtain ⟨gap, reply, first, resend, frameEnd, expiry⟩ := h.transmitting
  cases hk : requestKindOf c with
  | some k => exact h.requests hk
  | none =>
    cases c <;> simp only [requestKindOf, reduceCtorEq] at hk
    case powerReset speed =>
      obtain ⟨power, -, -⟩ := h.resets speed
      exact power
    case pinReset speed =>
      obtain ⟨-, pin, -⟩ := h.resets speed
      exact pin
    case softReset speed =>
      obtain ⟨-, -, soft⟩ := h.resets speed
      exact soft
    case undefinedRequestKind => exact .next (h.takeRequest _ _ fun _ _ ht => ht)
    case byteReceived b =>
      obtain ⟨received, -⟩ := h.receiving b
      exact received
    case lengthDiscard b =>
      obtain ⟨-, length, -⟩ := h.receiving b
      exact length
    case crcMismatch b =>
      obtain ⟨-, -, crc, -⟩ := h.receiving b
      exact crc
    case foreignFrame b =>
      obtain ⟨-, -, -, foreign, -⟩ := h.receiving b
      exact foreign
    case ack b =>
      obtain ⟨-, -, -, -, ack, -⟩ := h.receiving b
      exact ack
    case requestFrameArrival b =>
      obtain ⟨-, -, -, -, -, arrival⟩ := h.receiving b
      exact arrival
    case gapTimeout => exact gap
    case replyTransmission => exact reply
    case firstTransmission => exact first
    case noticeResend => exact resend
    case frameEnd => exact frameEnd
    case ackTimerExpiry => exact expiry
    case roundTimerExpiry => exact kept.roundTimerExpiry h
    case settleEdge u dt =>
      obtain ⟨settle, -⟩ := units u .rising dt
      exact settle
    case gateEdge u dt =>
      obtain ⟨-, gate, -⟩ := units u .rising dt
      exact gate
    case gateClose u =>
      obtain ⟨-, -, close, -⟩ := units u .rising 0
      exact close
    case armingEdge u dt =>
      obtain ⟨-, -, -, arming, -⟩ := units u .rising dt
      exact arming
    case periodEdge u dt =>
      obtain ⟨-, -, -, -, period, -⟩ := units u .rising dt
      exact period
    case intervalArmingEdge u e dt =>
      obtain ⟨-, -, -, -, -, arming, -⟩ := units u e dt
      exact arming
    case intervalFinalEdge u e dt =>
      obtain ⟨-, -, -, -, -, -, final, -⟩ := units u e dt
      exact final
    case spanTimeout u =>
      obtain ⟨-, -, -, -, -, -, -, timeout⟩ := units u .rising 0
      exact timeout
    case resetHeldLow => exact .next h

theorem idle (h : s.DeliverySound) : s.idle.DeliverySound := by
  unfold State.idle
  split
  · exact h
  · rw [State.refclk_eq]
    exact h.retimed

end State.DeliverySound

/-- Settles O55: delivery's own changes keep it sound, and so does every command, or the passing of time. -/
theorem deliverySoundKept : Obligations.DeliverySoundKept := by
  intro s t h ht
  have sound : s.DeliverySound := h
  refine Yields.of_next (P := State.DeliverySound) (ht ▸ ?_)
  unfold Machine.step
  split
  · exact .next sound.idle
  · next c rest _ => exact State.DeliverySound.exec (s := { s with pending := rest }) h c

end Sys2Proof.Machine
end

section
/-! Requests and replies as the host sees them: the taking of a request of any kind, the answer from the reply cache, the
generic checks, what each service answers, and the handler after a reset (R177 to R180, R183, R184, R186). -/

namespace Sys2Proof.Machine

/-! ### After a reset (R184) -/

/-- The kind of the last reset stands at offset 25 of the GET_STATUS reply (R187). -/
theorem State.statusBytes_lastReset (st : Byte) (s : State) :
    (st :: s.statusBytes)[25]? = some (codeByte s.handler.lastReset.code) := by
  simp [State.statusBytes, bytesLE]

/-- Settles O4: the reset values of the handler, and the status picture that shows the kind. -/
theorem resetReadiesHandler : Obligations.ResetReadiesHandler := by
  intro k speed c s h
  exact ⟨_, exec_reset h, rfl, State.statusBytes_lastReset _ _, rfl⟩

/-! ### The taking of a request (R177, R178) -/

section
variable {s : State} {f : Frame} {rest : List Frame} {ofKind : Byte → Bool}

theorem State.takeRequest_can (can : s.CanTake f rest) (kind : ofKind f.kind = true) (service : Service) :
    s.takeRequest ofKind service = (s.beginTaking rest).answer service f := by
  obtain ⟨waits, ready, room⟩ := can
  unfold State.takeRequest
  simp only [waits]
  rw [if_pos (by simp [Handler.canTake, ready, room, kind])]

/-- In RESETTING no request is taken (R183). -/
theorem State.takeRequest_resetting (resetting : s.handler.resetting = true) (service : Service) :
    s.takeRequest ofKind service = s := by
  obtain ⟨_, _, -, ready, -⟩ | same := s.takeRequest_cases ofKind service
  · simp [Handler.canTake, resetting] at ready
  · exact same

/-- The taking of a request leaves the reply cache as it is. -/
theorem State.beginTaking_cached (s : State) (f : Frame) (rest : List Frame) :
    (s.beginTaking rest).handler.cached f = s.handler.cached f := by
  obtain ⟨-, -, -, -, handler, -⟩ := s.beginTaking_fields rest
  rw [handler]
  rfl

theorem State.answer_cached {reply : Frame} (h : s.handler.cached f = some reply) (service : Service) :
    s.answer service f = s.placeReply reply := by
  simp only [State.answer, h]

theorem State.answer_new (h : s.handler.cached f = none) (service : Service) :
    s.answer service f = (service f s).1.replied f (service f s).2 := by
  simp only [State.answer, h]
  rfl

/-- A request with a tag finds the reply cached under its tag and kind (R178). -/
theorem Handler.cached_of_cache {h : Handler} {reply : Frame} (tag : f.tag ≠ 0#8)
    (cache : h.cache = some { tag := f.tag, kind := f.kind, reply := reply }) : h.cached f = some reply := by
  simp [Handler.cached, cache, tag]

theorem definedKind_eq_false {kind : Byte} (h : kind.toNat = 0 ∨ 14 < kind.toNat) : definedKind kind = false := by
  simp only [definedKind, Bool.and_eq_false_iff, decide_eq_false_iff_not]
  omega

end

/-! ### The services (R179) -/

/-- What carries out the requests of a defined kind once they have passed the generic checks. -/
def RequestKind.service : RequestKind → List Byte → State → State × Reply
  | .ping => servePing
  | .getStatus => serveGetStatus
  | .setLink => serveSetLink
  | .setChannel => serveSetChannel
  | .getChannel => serveGetChannel
  | .setScan => serveSetScan
  | .getScan => serveGetScan
  | .scanStart => serveScanStart
  | .scanStop => serveScanStop
  | .calibrate => serveOperation .calibrate
  | .measure => serveOperation .measure
  | .abortOp => serveAbortOp
  | .flushNotices => serveFlush
  | .resetPart => serveResetPart

/-- Each command of a defined kind takes a request of that kind and carries it out by the kind's service. -/
theorem exec_eq_request {c : Instr} {k : RequestKind} (h : requestKindOf c = some k) (s : State) :
    exec c s = .next (s.request k k.service) := by
  cases c <;> cases h <;> rfl

/-- Settles O16: the cached reply is placed, for a defined kind and for an undefined one alike. -/
theorem cachedReplyRepeated : Obligations.CachedReplyRepeated := by
  intro c f reply rest s can kind tag cache
  have cached : s.handler.cached f = some reply := Handler.cached_of_cache tag cache
  have placed : (s.beginTaking rest).placeReply reply =
      { s.beginTaking rest with
        handler := { s.handler with requests := rest, replies := s.handler.replies ++ [reply] } } := by
    obtain ⟨-, -, -, -, handler, -⟩ := s.beginTaking_fields rest
    rw [State.placeReply, handler]
  rw [← placed]
  obtain ⟨k, hk, code⟩ | ⟨rfl, undefined⟩ := kind
  · rw [exec_eq_request hk, State.request_cached can code cached]
  · show Host.Outcome.next (s.takeRequest _ serveUnknown) = _
    rw [State.takeRequest_can can (by rw [definedKind_eq_false undefined]; rfl),
      State.answer_cached ((s.beginTaking_cached f rest).trans cached)]

/-- Settles O20: the undefined kind, the accepted RESET_PART, and the commands in RESETTING. -/
theorem undefinedKindAndResetPart : Obligations.UndefinedKindAndResetPart := by
  intro f rest s
  refine ⟨fun can new undefined => ?_, fun takes empty => ?_, fun resetting c request => ?_⟩
  · show Host.Outcome.next (s.takeRequest _ serveUnknown) = _
    rw [State.takeRequest_can can (by rw [definedKind_eq_false undefined]; rfl),
      State.answer_new ((s.beginTaking_cached f rest).trans new)]
    rfl
  · have generic : RequestKind.resetPart.generic f.payload = none := by rw [empty]; rfl
    show Host.Outcome.next (s.request .resetPart serveResetPart) = _
    rw [State.request_new takes, checked_of_generic _ _ generic, State.replied_eq, State.replied_eq]
    rfl
  · obtain defined | rfl := request
    · obtain ⟨k, hk⟩ := Option.ne_none_iff_exists'.mp defined
      rw [exec_eq_request hk]
      exact congrArg Host.Outcome.next (State.takeRequest_resetting resetting _)
    · exact congrArg Host.Outcome.next (State.takeRequest_resetting resetting _)

/-! ### The generic checks (R179, R186) -/

section
variable {k : RequestKind} {f : Frame}

/-- What the generic checks refuse is not carried out. -/
theorem checked_of_refused (serve : List Byte → State → State × Reply) (u : State) {r : Refused}
    (h : k.generic f.payload = some r) : checked k serve f u = (u, r.reply) := by
  simp only [checked, h]

theorem RequestKind.generic_badLength {p : List Byte} (length : k.lengthOk p = false) :
    k.generic p = some { status := .badLength, detail := noOffset } := by
  simp [RequestKind.generic, length]

theorem RequestKind.generic_unusedBits {p : List Byte} {offset : Nat} (length : k.lengthOk p = true)
    (bits : k.unusedBits p = some offset) : k.generic p = some (Refused.badValue offset) := by
  simp [RequestKind.generic, length, bits]

/-- A request that the generic checks refuse changes nothing but the reply (R179, R180). -/
theorem exec_generic_refused {c : Instr} {rest : List Frame} {s : State} {r : Refused} (hk : requestKindOf c = some k)
    (takes : s.TakesNew k f rest) (refused : k.generic f.payload = some r) :
    exec c s = .next ((s.beginTaking rest).replied f r.reply) := by
  rw [exec_eq_request hk, State.request_new takes, checked_of_refused _ _ refused]

end

/-- The walk over the flags bytes, from entry `a` on, stops at the first one with an unassigned bit. -/
theorem unusedScanBits_first {p : List Byte} {n a i : Nat} (inside : i < n) (unused : 2 ≤ byteAt p (3 * (a + i) + 3))
    (before : ∀ j < i, byteAt p (3 * (a + j) + 3) ≤ 1) : unusedScanBits p n a = some (3 * (a + i) + 3) := by
  induction n generalizing a i with
  | zero => cases inside
  | succ n ih =>
    rw [unusedScanBits, show 1 + 3 * a + 2 = 3 * a + 3 by omega]
    cases i with
    | zero => exact if_pos unused
    | succ i =>
      have assigned : byteAt p (3 * a + 3) ≤ 1 := before 0 (Nat.succ_pos i)
      have shift (j : Nat) : a + (j + 1) = a + 1 + j := by omega
      rw [if_neg (Nat.not_lt_of_le assigned), shift i]
      refine ih (Nat.lt_of_succ_lt_succ inside) (shift i ▸ unused) fun j hj => ?_
      exact shift j ▸ before (j + 1) (Nat.succ_lt_succ hj)

/-- Settles O18: the length check first, then the flags bytes of SET_SCAN. -/
theorem genericChecksRefuse : Obligations.GenericChecksRefuse := by
  intro c k f rest s hk takes
  refine ⟨fun wrong => ?_, fun i scan length inside unused before => ?_⟩
  · refine exec_generic_refused (r := { status := .badLength, detail := noOffset }) hk takes
      (RequestKind.generic_badLength ?_)
    cases k with
    | ping | getStatus | getScan | scanStop | resetPart | setLink | setChannel | getChannel | abortOp | flushNotices
    | scanStart => simpa [RequestKind.lengthOk] using wrong
    | setScan | calibrate | measure =>
      simp only [RequestKind.lengthOk, Bool.and_eq_false_iff, decide_eq_false_iff_not]
      obtain short | other := wrong
      · exact .inl (by omega)
      · exact .inr other
  · subst scan
    have right : RequestKind.setScan.lengthOk f.payload = true := by
      simp only [RequestKind.lengthOk, Bool.and_eq_true, decide_eq_true_eq]
      exact ⟨by omega, length⟩
    have first : RequestKind.setScan.unusedBits f.payload = some (3 * (0 + i) + 3) :=
      unusedScanBits_first inside (by rw [Nat.zero_add]; exact unused) fun j hj => by
        rw [Nat.zero_add]
        exact before j hj
    rw [Nat.zero_add] at first
    exact exec_generic_refused (r := Refused.badValue (3 * i + 3)) hk takes
      (RequestKind.generic_unusedBits right first)

/-! ### The status of a refusal (R180, R188) -/

/-- Whatever the checks refuse, they refuse with the code of a refusal. -/
def Refuses (check : Option Refused) : Prop := ∀ r, check = some r → 2 ≤ r.status.code

namespace Refuses

theorem none : Refuses none := nofun

theorem some {r : Refused} (h : 2 ≤ r.status.code) : Refuses (some r) := fun _ hr => Option.some.inj hr ▸ h

theorem badValue (offset : Nat) : Refuses (Option.some (Refused.badValue offset)) := some (show 2 ≤ 4 by decide)

theorem wrongState : Refuses (Option.some Refused.wrongState) := some (by decide)

theorem map_badValue (offset : Option Nat) : Refuses (offset.map Refused.badValue) := by
  cases offset with
  | none => exact none
  | some n => exact badValue n

theorem ite {p : Prop} [Decidable p] {a b : Option Refused} (ha : Refuses a) (hb : Refuses b) :
    Refuses (if p then a else b) := by
  split
  · exact ha
  · exact hb

theorem generic (k : RequestKind) (p : List Byte) : Refuses (k.generic p) := by
  unfold RequestKind.generic
  refine ite ?_ (some (show 2 ≤ 3 by decide))
  split
  · exact badValue _
  · exact none

theorem setChannel (p : List Byte) (s : State) : Refuses (s.refuseSetChannel p) := by
  unfold State.refuseSetChannel
  refine ite (badValue 0) (ite wrongState ?_)
  split
  · exact badValue _
  · exact map_badValue _

theorem setScan (p : List Byte) (s : State) : Refuses (s.refuseSetScan p) :=
  ite wrongState (ite (badValue 0) (map_badValue _))

theorem scanStart (p : List Byte) (s : State) : Refuses (s.refuseScanStart p) := by
  unfold State.refuseScanStart
  split
  · exact badValue 0
  · exact ite (badValue 1) (ite wrongState (ite wrongState (ite wrongState none)))

theorem operation (k : OpKind) (p : List Byte) (s : State) : Refuses (s.refuseOperation k p) := by
  unfold State.refuseOperation
  refine ite (badValue 0) (ite (badValue 1) ?_)
  split
  · exact badValue _
  · split
    · exact some (show 2 ≤ 5 by decide)
    · exact ite (some (by decide)) none

end Refuses

/-! ### What a service answers (R177, R180) -/

/-- The line, the handler, the level of RESET and the command queue of `t` are those of `s`. -/
def State.SameFront (s t : State) : Prop :=
  t.line = s.line ∧ t.handler = s.handler ∧ t.resetHeld = s.resetHeld ∧ t.pending = s.pending

theorem State.SameFront.refl (s : State) : s.SameFront s := ⟨rfl, rfl, rfl, rfl⟩

theorem State.SameLink.front {s t : State} (h : s.SameLink t) : s.SameFront t := by
  obtain ⟨line, -, handler, held, pending⟩ := h
  exact ⟨line, handler, held, pending⟩

/-- What a service makes of a request of a kind in the state `u`: done with OK, RESETTING entered, an operation started
with ACCEPTED and its id, or a refusal with one detail byte that leaves `u` as it is. -/
inductive Serves (k : RequestKind) (u : State) : State × Reply → Prop
  | done (v : State) (rest : List Byte) (other : k ≠ .calibrate ∧ k ≠ .measure ∧ k ≠ .resetPart)
      (same : u.SameFront v) : Serves k u (v, Reply.okWith rest)
  | resetting (reset : k = .resetPart) :
      Serves k u ({ u with handler := { u.handler with resetting := true } }, Reply.ok)
  | started (v : State) (id : Byte) (operation : k = .calibrate ∨ k = .measure) (same : u.SameFront v) :
      Serves k u (v, { status := .accepted, rest := [id] })
  | refused (r : Refused) (code : 2 ≤ r.status.code) : Serves k u (u, r.reply)

namespace Serves

variable {k : RequestKind} {u : State} {served : State × Reply}

/-- A service leaves the handler to the answer, but for the entry of RESETTING (R183). -/
theorem handler (h : Serves k u served) :
    served.1.handler =
      { u.handler with
        resetting := u.handler.resetting || decide (k = .resetPart ∧ served.2.status = .ok) } := by
  cases h with
  | done v rest other same =>
    obtain ⟨-, handler, -⟩ := same
    simp [handler, other]
  | resetting reset => simp [reset, Reply.ok, Reply.okWith]
  | started v id operation same =>
    obtain ⟨-, handler, -⟩ := same
    simp [handler]
  | refused r code =>
    have refusal : r.reply.status ≠ .ok := fun ok => absurd (ok ▸ code : 2 ≤ Status.ok.code) (by decide)
    simp [refusal]

theorem front (h : Serves k u served) :
    served.1.line = u.line ∧ served.1.resetHeld = u.resetHeld ∧ served.1.pending = u.pending := by
  cases h with
  | done v rest other same =>
    obtain ⟨line, -, held, pending⟩ := same
    exact ⟨line, held, pending⟩
  | started v id operation same =>
    obtain ⟨line, -, held, pending⟩ := same
    exact ⟨line, held, pending⟩
  | resetting | refused => exact ⟨rfl, rfl, rfl⟩

/-- The three kinds of answers (R126, R180). -/
theorem answer (h : Serves k u served) :
    (served.2.status = .ok ∧ k ≠ .calibrate ∧ k ≠ .measure) ∨
      (served.2.status = .accepted ∧ (k = .calibrate ∨ k = .measure) ∧ served.2.rest.length = 1) ∨
      (2 ≤ served.2.status.code ∧ served.2.rest.length = 1 ∧ served.1 = u) := by
  cases h with
  | done v rest other same => exact .inl ⟨rfl, other.1, other.2.1⟩
  | resetting reset => exact .inl ⟨rfl, by simp [reset], by simp [reset]⟩
  | started v id operation same => exact .inr (.inl ⟨rfl, operation, rfl⟩)
  | refused r code => exact .inr (.inr ⟨code, rfl, rfl⟩)

theorem guarded {refuse : List Byte → State → Option Refused} {effect : List Byte → State → State} {p : List Byte}
    (other : k ≠ .calibrate ∧ k ≠ .measure ∧ k ≠ .resetPart) (refuses : Refuses (refuse p u))
    (kept : refuse p u = none → u.SameFront (effect p u)) : Serves k u (Machine.guarded refuse effect p u) := by
  unfold Machine.guarded
  split
  · next r hr => exact .refused r (refuses r hr)
  · next passed => exact .done _ _ other (kept passed)

theorem operation {o : OpKind} (hk : k = .calibrate ∨ k = .measure) (p : List Byte) :
    Serves k u (serveOperation o p u) := by
  unfold serveOperation
  split
  · next r hr => exact .refused r (Refuses.operation o p u r hr)
  · exact .started _ _ hk (State.SameLink.front (u.sameLink_kept.startOperation o p ⟨rfl, rfl, rfl, rfl, rfl⟩))

theorem setChannel (p : List Byte) : Serves .setChannel u (serveSetChannel p u) :=
  guarded (by decide) (Refuses.setChannel p u) fun passed => by
    obtain ⟨-, -, range, consistent⟩ := State.refuseSetChannel_none passed
    exact State.SameLink.front
      (u.sameLink_kept.reconfigure _ _ (configOf_valid range consistent) ⟨rfl, rfl, rfl, rfl, rfl⟩)

theorem setScan (p : List Byte) : Serves .setScan u (serveSetScan p u) :=
  guarded (by decide) (Refuses.setScan p u) fun _ => ⟨rfl, rfl, rfl, rfl⟩

theorem scanStart (p : List Byte) : Serves .scanStart u (serveScanStart p u) :=
  guarded (by decide) (Refuses.scanStart p u) fun _ =>
    State.SameLink.front (u.sameLink_kept.startScan _ _ ⟨rfl, rfl, rfl, rfl, rfl⟩)

theorem scanStop (p : List Byte) : Serves .scanStop u (serveScanStop p u) := by
  have same := u.abandon_same
  exact .done _ _ (by decide) ⟨same.line, same.handler, same.resetHeld, same.pending⟩

theorem setLink (p : List Byte) : Serves .setLink u (serveSetLink p u) := by
  unfold serveSetLink
  split
  · exact .refused _ (show 2 ≤ 4 by decide)
  · exact .done _ _ (by decide) ⟨rfl, rfl, rfl, rfl⟩

theorem getChannel (p : List Byte) : Serves .getChannel u (serveGetChannel p u) := by
  unfold serveGetChannel
  split
  · exact .refused _ (show 2 ≤ 4 by decide)
  · exact .done _ _ (by decide) (.refl u)

theorem abortOp (p : List Byte) : Serves .abortOp u (serveAbortOp p u) := by
  unfold serveAbortOp
  split
  · exact .refused _ (show 2 ≤ 4 by decide)
  · next o _ =>
    exact .done _ _ (by decide)
      (State.SameLink.front (u.sameLink_kept.abortOperation o ⟨rfl, rfl, rfl, rfl, rfl⟩))

theorem flush (p : List Byte) : Serves .flushNotices u (serveFlush p u) := by
  unfold serveFlush
  split
  · exact .refused _ (show 2 ≤ 4 by decide)
  · exact .done _ _ (by decide) ⟨rfl, rfl, rfl, rfl⟩

/-- Every kind's service answers in one of these ways. -/
theorem service (k : RequestKind) (p : List Byte) (u : State) : Serves k u (k.service p u) := by
  cases k with
  | ping | getStatus | getScan => exact .done u _ (by decide) (.refl u)
  | setLink => exact setLink p
  | setChannel => exact setChannel p
  | getChannel => exact getChannel p
  | setScan => exact setScan p
  | scanStart => exact scanStart p
  | scanStop => exact scanStop p
  | calibrate => exact operation (.inl rfl) p
  | measure => exact operation (.inr rfl) p
  | abortOp => exact abortOp p
  | flushNotices => exact flush p
  | resetPart => exact .resetting rfl

/-- The generic checks refuse, or leave the answer to the service (R179). -/
theorem checked (k : RequestKind) (f : Frame) (u : State) : Serves k u (checked k k.service f u) := by
  unfold Machine.checked
  split
  · next r hr => exact .refused r (Refuses.generic k f.payload r hr)
  · exact service k f.payload u

end Serves

/-- Settles O17: the reply of the kind's service is placed and cached on the handler of the taking; the code tables are
lists of closed codes. -/
theorem everyRequestGetsOneReply : Obligations.EveryRequestGetsOneReply := by
  refine ⟨fun c k f rest s hk takes => ?_, rfl, rfl⟩
  have serves := Serves.checked k f (s.beginTaking rest)
  have taken : exec c s = _ := (exec_eq_request hk s).trans (congrArg _ (State.request_new takes k.service))
  generalize checked k k.service f (s.beginTaking rest) = served at serves taken
  obtain ⟨v, r⟩ := served
  obtain ⟨-, -, line, -, handler, held, pending⟩ := s.beginTaking_fields rest
  obtain ⟨line', held', pending'⟩ := serves.front
  obtain ⟨⟨-, ready, -⟩, -⟩ := takes
  refine ⟨_, r, taken, ?_, ?_⟩
  · rw [State.replied_eq, serves.handler, handler, ready, Bool.false_or]
    rfl
  rw [State.replied_eq]
  refine ⟨line'.trans line, held'.trans held, pending'.trans pending, ?_⟩
  obtain ok | accepted | ⟨code, detail, same⟩ := serves.answer
  · exact .inl ok
  · exact .inr (.inl accepted)
  · exact .inr (.inr ⟨code, detail, by rw [show v = s.beginTaking rest from same]⟩)

end Sys2Proof.Machine
end

section
/-! A step on a queue that is not empty: its front command is carried out, with the rest of the queue left. -/

namespace Sys2Proof.Machine

/-- The branch of a step that takes a command, wherever the queue shows one at its front. -/
theorem step_eq_exec_of_pending {s : State} {c : Instr} {rest : List Instr} (front : s.pending = c :: rest) :
    step s = exec c { s with pending := rest } := by
  unfold step
  rw [front]

/-- Settles O1: the command written to the front of the queue is the one that the step finds there. -/
theorem stepTakesFrontCommand : Obligations.StepTakesFrontCommand := by
  intro c rest s
  exact step_eq_exec_of_pending (s := { s with pending := c :: rest }) rfl

end Sys2Proof.Machine
end
